-- ==== Sys2Proof/Word.lean ====
section
/-!
DEFINITION. The widths the spec gives its values (00_scope.md R10): `u8`, `u16` and `u32`.
Counts, lengths and the synthesizer's intermediate values are naturals (R10, R130).
-/

namespace Sys2Proof

/-- `u8` of R10. -/
abbrev Byte := BitVec 8

/-- `u16` of R10. -/
abbrev U16 := BitVec 16

/-- `u32` of R10. -/
abbrev U32 := BitVec 32

end Sys2Proof
end

