-- ==== Sys2Proof/Config.lean ====
section
/-!
DEFINITION. What is fixed for one implementation and is no state of the block (10_state.md R37): the constants of
00_scope.md R5, the open parameters of R6 with the constraints R6 states, the constants derived from them (R7), the
host's frame-format encoding (30_encoding.md R80), and the free values.
-/

namespace Sys2Proof.Config

/-! ## Constants the document fixes (R5) -/

/-- `BASE`, the single clock of the synthesizer. -/
abbrev base : Nat := 6000000
/-- `MAXDIV`, the divisor the candidate search starts from. -/
abbrev maxDiv : Nat := 3
/-- `FACTOR_LIMIT`: the search shifts while the factor is above it. -/
abbrev factorLimit : Nat := 255
/-- `DOUBLE_MIN_FACTOR`: the double-clock candidate is considered only above it. -/
abbrev doubleMinFactor : Nat := 8
/-- `BYTE_FACTOR_MAX`: a byte factor above it fails. -/
abbrev byteFactorMax : Nat := 254
/-- `PAYLOAD_FLUSH`. -/
abbrev payloadFlush : Byte := 0x80
/-- `PAYLOAD_DOUBLE`. -/
abbrev payloadDouble : Byte := 0x04
/-- `REQ_READ_VERSION`. -/
abbrev reqReadVersion : Byte := 0x5F
/-- `REQ_WRITE_REG`. -/
abbrev reqWriteReg : Byte := 0x9A
/-- `REQ_READ_REG`. -/
abbrev reqReadReg : Byte := 0x95
/-- `REQ_SERIAL_INIT`. -/
abbrev reqSerialInit : Byte := 0xA1
/-- `REQ_MODEM_CTRL`. -/
abbrev reqModemCtrl : Byte := 0xA4
/-- `SEL_BAUD`, the baud/divisor register pair. -/
abbrev selBaud : U16 := 0x1312
/-- `SEL_FRAME`, the frame-format shadow. -/
abbrev selFrame : U16 := 0x2518
/-- `ST_CTS`. -/
abbrev stCts : Byte := 0x01
/-- `ST_DSR`. -/
abbrev stDsr : Byte := 0x02
/-- `ST_RI`. -/
abbrev stRi : Byte := 0x04
/-- `ST_DCD`. -/
abbrev stDcd : Byte := 0x08
/-- `STATUS_MASK`, the OR of the four status bits. -/
abbrev statusMask : Byte := 0x0F
/-- `NOTIF_COALESCED`, the bit of notification byte 1 that only a diagnostic note would look at (R174). -/
abbrev notifCoalesced : Byte := 0x04
/-- `NOTIF_MIN_LEN`, the shortest notification that is processed. -/
abbrev notifMinLen : Nat := 4
/-- `VERSION_LEN`, the length of the version reply. -/
abbrev versionLen : Nat := 2
/-- `RESET_BAUD`, the baud rate at CLAIM. -/
abbrev resetBaud : U32 := 9600

/-- DESIGN CHOICE (log entry 3): the number of segments an invocation may take in one step when the schedule names
no number. No operation of the block has that many, so it means "until it returns or must wait". -/
abbrev fullSlice : Nat := 64

/-! ## Open parameters (R6) -/

/-- Exactly one bit of the byte is set. -/
def isOneBit (b : Byte) : Bool := (List.range 8).any fun i => b == (1#8 <<< i)

/-- The open parameters of R6 that the block itself uses. A machine carries one such record and never changes it
(log entry 2). -/
structure Params where
  /-- `RTS_BIT` of `modem_control`. -/
  rtsBit : Byte
  /-- `DTR_BIT` of `modem_control`. -/
  dtrBit : Byte
  /-- `FF_RX_EN` of the frame-format byte. -/
  ffRxEn : Byte
  /-- `FF_TX_EN` of the frame-format byte. -/
  ffTxEn : Byte
  /-- `FF_8N1`. -/
  ff8N1 : Byte
  /-- `LCR_REG`, the frame-format register of the break pair. -/
  lcrReg : Byte
  /-- `BREAK_REG`, the break-control register. -/
  breakReg : Byte
  /-- `BREAK_BIT` of the break-control register. -/
  breakBit : Byte
  /-- `STATUS_SELECTOR`, read by STATUS_QUERY. -/
  statusSelector : U16
  /-- `STATUS_QUERY_LEN`, the bytes STATUS_QUERY asks for. -/
  statusQueryLen : Nat
  /-- `STATUS_QUERY_BYTE`, the reply byte that holds the inverted status. -/
  statusQueryByte : Nat
deriving DecidableEq, Repr

/-- The constraints R6 states for the parameters. -/
abbrev Params.Ok (c : Params) : Prop :=
  isOneBit c.rtsBit = true ∧ isOneBit c.dtrBit = true ∧ c.rtsBit ≠ c.dtrBit ∧
  isOneBit c.ffRxEn = true ∧ isOneBit c.ffTxEn = true ∧ c.ffRxEn ≠ c.ffTxEn ∧
  c.ff8N1 &&& c.ffRxEn = c.ffRxEn ∧ c.ff8N1 &&& c.ffTxEn = c.ffTxEn ∧
  isOneBit c.breakBit = true ∧
  c.statusQueryByte + 1 ≤ c.statusQueryLen ∧ c.statusQueryLen ≤ 65535

/-! ### The parameters of the machine after reset: free, but for R6's constraints

Each raw constant below is free. `implementation` turns them into a record that meets R6's constraints whatever they
are, and every record that meets the constraints is one of these. -/

/-- Free: the place of `RTS_BIT`. -/
opaque rtsPlace : Fin 8
/-- Free: how far after `RTS_BIT` the place of `DTR_BIT` is, less one. -/
opaque dtrAfterRts : Fin 7
/-- Free: the place of `FF_RX_EN`. -/
opaque rxPlace : Fin 8
/-- Free: how far after `FF_RX_EN` the place of `FF_TX_EN` is, less one. -/
opaque txAfterRx : Fin 7
/-- Free: the bits of `FF_8N1` other than the two enable bits. -/
opaque ff8N1Rest : Byte
/-- Free: `LCR_REG`. -/
opaque lcrRegFree : Byte
/-- Free: `BREAK_REG`. -/
opaque breakRegFree : Byte
/-- Free: the place of `BREAK_BIT`. -/
opaque breakPlace : Fin 8
/-- Free: `STATUS_SELECTOR`. -/
opaque statusSelectorFree : U16
/-- Free: `STATUS_QUERY_BYTE`. -/
opaque statusByteFree : Fin 65535
/-- Free: by how much `STATUS_QUERY_LEN` exceeds the least length that holds the byte. -/
opaque statusLenExtra : Nat

/-- The byte with the one bit at a place. -/
def bitAt (i : Nat) : Byte := 1#8 <<< (i % 8)

/-- The parameters of the machine after reset: any that meet R6's constraints, none in particular. -/
def implementation : Params :=
  { rtsBit := bitAt rtsPlace.val
    dtrBit := bitAt (rtsPlace.val + 1 + dtrAfterRts.val)
    ffRxEn := bitAt rxPlace.val
    ffTxEn := bitAt (rxPlace.val + 1 + txAfterRx.val)
    ff8N1 := ff8N1Rest ||| bitAt rxPlace.val ||| bitAt (rxPlace.val + 1 + txAfterRx.val)
    lcrReg := lcrRegFree
    breakReg := breakRegFree
    breakBit := bitAt breakPlace.val
    statusSelector := statusSelectorFree
    statusQueryByte := statusByteFree.val
    statusQueryLen := statusByteFree.val + 1 + statusLenExtra % (65535 - statusByteFree.val) }

/-! ### The host's frame-format encoding (R6 `FF_ENCODE`, R80, R264) -/

/-- Data bits 5 to 8 (R80). -/
inductive DataBits | five | six | seven | eight
deriving DecidableEq, Repr

/-- The parities of R80. -/
inductive Parity | none | odd | even | mark | space
deriving DecidableEq, Repr

/-- One or two stop bits (R80). -/
inductive StopBits | one | two
deriving DecidableEq, Repr

/-- Free: the layout of the frame-format byte, which no source gives (R80). -/
opaque ffLayout : DataBits → Parity → StopBits → Byte

/-- `FF_ENCODE` (R6, R80): total, both enable bits set in every result, and `FF_8N1` its value at 8 data bits, no
parity, one stop bit. The block never calls it: the host does, to make the byte it passes (R264). -/
def Params.ffEncode (c : Params) : DataBits → Parity → StopBits → Byte
  | .eight, .none, .one => c.ff8N1
  | d, p, t => ffLayout d p t ||| c.ffRxEn ||| c.ffTxEn

/-! ## Free values -/

/-- Free: what the subscription service answers to the `n`-th `Submit` for which the state lists no answer
(20_memory.md R65: `SubSubmit()` returns `Ok` or `Fail`, and nothing the block knows decides which). -/
opaque freeGrant : Nat → Bool

end Sys2Proof.Config
end

