-- ==== Sys2Proof/Syntax.lean ====
section
/-!
DEFINITION. The operations of the block, one constructor per row of spec/opcode_table.json, and the encoded objects
that name them (30_encoding.md R70 to R90).
-/

namespace Sys2Proof

/-- One delivery on the NTF port (20_memory.md R65, 43_status_monitor.md R182): a byte string of any length and
content, or a delivery that carries a failure indication. -/
inductive Delivery
  /-- The notification's bytes, in the order they arrive (R11). -/
  | record (bytes : List Byte)
  /-- Delivered with a failure indication (R182). -/
  | failed
deriving DecidableEq, Repr

/-- The operations of the block. -/
inductive Instr
  /-- WRITE_REG: WRITE_REGISTER(selector, value), 40_register_codec.md R100. -/
  | writeReg (selector value : U16)
  /-- READ_REG: READ_REGISTER(selector, len), R101. `len` is the document's `usize`. -/
  | readReg (selector : U16) (len : Nat)
  /-- READ_VERSION, R104. -/
  | readVersion
  /-- SERIAL_INIT, R105. -/
  | serialInit
  /-- MODEM_CTRL(ctl), R106. -/
  | modemCtrl (ctl : Byte)
  /-- NOTIFY(bytes), 43_status_monitor.md R170. -/
  | notify (d : Delivery)
  /-- CLAIM, 45_orchestrator.md R202. -/
  | claim
  /-- OPEN, R203. -/
  | openPort
  /-- RECONFIGURE(new_baud, new_frame), R206. -/
  | reconfigure (baud : U32) (frame : Byte)
  /-- SET_BAUD_RATE(baud), R207. -/
  | setBaudRate (baud : U32)
  /-- SET_FRAME_FORMAT(frame), R208. -/
  | setFrameFormat (frame : Byte)
  /-- RESUME, R209. -/
  | resume
  /-- RELEASE, R210. -/
  | release
  /-- SET_LINES(set_mask, clear_mask), 42_modem_lines.md R150. -/
  | setLines (setMask clearMask : Byte)
  /-- GET_LINES, R151. -/
  | getLines
  /-- RAISE_LINES(on), R152. -/
  | raiseLines (on : Bool)
  /-- CARRIER_PRESENT, R153. -/
  | carrierPresent
  /-- SET_BREAK(active), 44_break.md R190. -/
  | setBreak (active : Bool)
  /-- SYNTHESIZE(baud), 41_baud_synth.md R129. -/
  | synthesize (baud : U32)
  /-- PROGRAM_LINE(baud, frame), R132. -/
  | programLine (baud : U32) (frame : Byte)
  /-- STATUS_QUERY, 42_modem_lines.md R154. -/
  | statusQuery
  /-- SUBSCRIBE, 43_status_monitor.md R178. -/
  | subscribe
  /-- UNSUBSCRIBE, R179. -/
  | unsubscribe
deriving DecidableEq, Repr

/-- The setup packet of a control frame, byte by byte (30_encoding.md R71). The layout is PRESUMED (log entry 5): the
spec takes it from general knowledge of USB. -/
structure SetupPacket where
  /-- Byte 0: direction, type, recipient. -/
  bmRequestType : Byte
  /-- Byte 1: the request code. -/
  bRequest : Byte
  /-- Byte 2: `wValue`, low byte. -/
  valueLo : Byte
  /-- Byte 3: `wValue`, high byte. -/
  valueHi : Byte
  /-- Byte 4: `wIndex`, low byte. -/
  indexLo : Byte
  /-- Byte 5: `wIndex`, high byte. -/
  indexHi : Byte
  /-- Byte 6: `wLength`, low byte. -/
  lengthLo : Byte
  /-- Byte 7: `wLength`, high byte. -/
  lengthHi : Byte
deriving DecidableEq, Repr

/-- The command word `CMD48` (R84): bits 47 to 40 `op`, bits 39 to 0 `arg`. -/
structure CommandWord where
  /-- Bits 47 to 40. -/
  op : Byte
  /-- Bits 39 to 0. -/
  arg : BitVec 40
deriving DecidableEq, Repr

/-- The three encoded objects by which an operation is named (R70, R71, R81, R84, R90). -/
inductive Encoded
  /-- A setup packet: it names a codec operation. -/
  | setup8 (p : SetupPacket)
  /-- A command word on the CMD port. -/
  | cmd48 (c : CommandWord)
  /-- A delivery on the NTF port: every one of them is a notification (R90). -/
  | notify4 (d : Delivery)
deriving DecidableEq, Repr

end Sys2Proof
end

