-- ==== Sys2Proof/WellFormed.lean ====
section
/-!
DEFINITION. Which operations have an encoding. Every operand but one has the width of its field; the length of
READ_REGISTER is the document's `usize`, and the frame's length field has 16 bits (40_register_codec.md R101).
-/

namespace Sys2Proof

/-- The operation has an encoding. (A length of 0 has one, and READ_REGISTER refuses it: R101.) -/
def Instr.wellFormed : Instr → Bool
  | .readReg _ len => decide (len ≤ 65535)
  | .writeReg _ _ => true
  | .readVersion => true
  | .serialInit => true
  | .modemCtrl _ => true
  | .notify _ => true
  | .claim => true
  | .openPort => true
  | .reconfigure _ _ => true
  | .setBaudRate _ => true
  | .setFrameFormat _ => true
  | .resume => true
  | .release => true
  | .setLines _ _ => true
  | .getLines => true
  | .raiseLines _ => true
  | .carrierPresent => true
  | .setBreak _ => true
  | .synthesize _ => true
  | .programLine _ _ => true
  | .statusQuery => true
  | .subscribe => true
  | .unsubscribe => true

end Sys2Proof
end

