-- ==== Sys2Proof/Decode.lean ====
section
/-!
DEFINITION. The byte helpers of 00_scope.md R10, the decoder (total; what names no operation is rejected by name) and
the encoder, both written from 30_encoding.md R71 to R84 and spec/opcode_table.json.
-/

namespace Sys2Proof

/-! ## Bytes and words (R10) -/

/-- `hi8(w)`, bits 15 to 8. -/
def hi8 (w : U16) : Byte := w.extractLsb' 8 8

/-- `lo8(w)`, bits 7 to 0. -/
def lo8 (w : U16) : Byte := w.extractLsb' 0 8

/-- `pack16(h, l) = (h << 8) | l`. -/
def pack16 (h l : Byte) : U16 := (h ++ l : BitVec (8 + 8))

/-- `zext_16(b)`: low byte `b`, high byte 0. -/
def zext16 (b : Byte) : U16 := b.zeroExtend 16

/-- `~_8 a`, the 8-bit complement. -/
def not8 (a : Byte) : Byte := ~~~a

/-! ## The decoder -/

/-- Why an encoded object names no operation. -/
inductive DecodeError
  /-- A setup packet that is none of the five frames of R72. The block never makes one (R86). -/
  | unknownFrame
  /-- A command word whose `op` is not in the table of R84: the block answers `Refused` (R86, R234). -/
  | unknownOp
deriving DecidableEq, Repr

/-- A setup packet names the codec operation whose frame it is (R72 to R77, R90): `bmRequestType` and `bRequest` must
be those of the row, and every field the row fixes must have the row's value. -/
def decodeSetup8 (p : SetupPacket) : Except DecodeError Instr :=
  let value := pack16 p.valueHi p.valueLo
  let index := pack16 p.indexHi p.indexLo
  let length := pack16 p.lengthHi p.lengthLo
  if p.bmRequestType = 0x40 ∧ p.bRequest = Config.reqWriteReg ∧ length = 0 then
    .ok (.writeReg index value)
  else if p.bmRequestType = 0xC0 ∧ p.bRequest = Config.reqReadReg ∧ index = 0 then
    .ok (.readReg value length.toNat)
  else if p.bmRequestType = 0xC0 ∧ p.bRequest = Config.reqReadVersion ∧ value = 0 ∧ index = 0 ∧ length = 2 then
    .ok .readVersion
  else if p.bmRequestType = 0x40 ∧ p.bRequest = Config.reqSerialInit ∧ value = 0 ∧ index = 0 ∧ length = 0 then
    .ok .serialInit
  else if p.bmRequestType = 0x40 ∧ p.bRequest = Config.reqModemCtrl ∧ p.valueHi = 0 ∧ index = 0 ∧ length = 0 then
    .ok (.modemCtrl (not8 p.valueLo))
  else .error .unknownFrame

/-- `arg[39:8]`, the baud rate of R84. -/
def argBaud (arg : BitVec 40) : U32 := arg.extractLsb' 8 32

/-- `arg[7:0]`. -/
def argByte0 (arg : BitVec 40) : Byte := arg.extractLsb' 0 8

/-- `arg[15:8]`. -/
def argByte1 (arg : BitVec 40) : Byte := arg.extractLsb' 8 8

/-- `arg[0]`. -/
def argBit0 (arg : BitVec 40) : Bool := arg.getLsbD 0

/-- A command word names the operation of its `op` (R84). Unused `arg` bits are ignored. -/
def decodeCmd48 (c : CommandWord) : Except DecodeError Instr :=
  if c.op = 0x01 then .ok .claim
  else if c.op = 0x02 then .ok .openPort
  else if c.op = 0x03 then .ok (.reconfigure (argBaud c.arg) (argByte0 c.arg))
  else if c.op = 0x04 then .ok (.setBaudRate (argBaud c.arg))
  else if c.op = 0x05 then .ok (.setFrameFormat (argByte0 c.arg))
  else if c.op = 0x06 then .ok .resume
  else if c.op = 0x07 then .ok .release
  else if c.op = 0x08 then .ok (.setLines (argByte0 c.arg) (argByte1 c.arg))
  else if c.op = 0x09 then .ok .getLines
  else if c.op = 0x0A then .ok (.raiseLines (argBit0 c.arg))
  else if c.op = 0x0B then .ok .carrierPresent
  else if c.op = 0x0C then .ok (.setBreak (argBit0 c.arg))
  else if c.op = 0x80 then .ok (.synthesize (argBaud c.arg))
  else if c.op = 0x81 then .ok (.programLine (argBaud c.arg) (argByte0 c.arg))
  else if c.op = 0x82 then .ok .statusQuery
  else if c.op = 0x83 then .ok .subscribe
  else if c.op = 0x84 then .ok .unsubscribe
  else .error .unknownOp

/-- The bits of `arg` that the operation uses (R84); the others are ignored. -/
def usedBits (op : Byte) : BitVec 40 :=
  if op = 0x03 ∨ op = 0x81 then 0xFFFFFFFFFF
  else if op = 0x04 ∨ op = 0x80 then 0xFFFFFFFF00
  else if op = 0x08 then 0x000000FFFF
  else if op = 0x05 then 0x00000000FF
  else if op = 0x0A ∨ op = 0x0C then 0x0000000001
  else 0

/-- The decoder: the operation an encoded object names. -/
def decode : Encoded → Except DecodeError Instr
  | .setup8 p => decodeSetup8 p
  | .cmd48 c => decodeCmd48 c
  | .notify4 d => .ok (.notify d)

/-! ## The encoder -/

/-- The setup packet of a frame's tuple (R71): 16-bit fields low byte first. -/
def setupPacket (bmRequestType req : Byte) (value index length : U16) : SetupPacket :=
  { bmRequestType := bmRequestType, bRequest := req
    valueLo := lo8 value, valueHi := hi8 value
    indexLo := lo8 index, indexHi := hi8 index
    lengthLo := lo8 length, lengthHi := hi8 length }

/-- A command word with an empty `arg` (R84: unused bits are 0). -/
def bareCommand (op : Byte) : Encoded := .cmd48 { op := op, arg := 0 }

/-- A command word with `arg[39:8]` and `arg[7:0]` (R84). -/
def wideCommand (op : Byte) (baud : U32) (low : Byte) : Encoded :=
  .cmd48 { op := op, arg := (baud ++ low : BitVec (32 + 8)) }

/-- A command word with `arg[15:8]` and `arg[7:0]` (R84). -/
def byteCommand (op high low : Byte) : Encoded := wideCommand op (high.zeroExtend 32) low

/-- A command word with `arg[0]` (R84). -/
def flagCommand (op : Byte) (flag : Bool) : Encoded := byteCommand op 0 (if flag then 1 else 0)

/-- The encoder: the word of an operation, from the tables of R72 and R84. -/
def encode : Instr → Encoded
  | .writeReg sel v => .setup8 (setupPacket 0x40 Config.reqWriteReg v sel 0)
  | .readReg sel len => .setup8 (setupPacket 0xC0 Config.reqReadReg sel 0 (BitVec.ofNat 16 len))
  | .readVersion => .setup8 (setupPacket 0xC0 Config.reqReadVersion 0 0 2)
  | .serialInit => .setup8 (setupPacket 0x40 Config.reqSerialInit 0 0 0)
  | .modemCtrl ctl => .setup8 (setupPacket 0x40 Config.reqModemCtrl (zext16 (not8 ctl)) 0 0)
  | .notify d => .notify4 d
  | .claim => bareCommand 0x01
  | .openPort => bareCommand 0x02
  | .reconfigure b f => wideCommand 0x03 b f
  | .setBaudRate b => wideCommand 0x04 b 0
  | .setFrameFormat f => byteCommand 0x05 0 f
  | .resume => bareCommand 0x06
  | .release => bareCommand 0x07
  | .setLines set clear => byteCommand 0x08 clear set
  | .getLines => bareCommand 0x09
  | .raiseLines on => flagCommand 0x0A on
  | .carrierPresent => bareCommand 0x0B
  | .setBreak active => flagCommand 0x0C active
  | .synthesize b => wideCommand 0x80 b 0
  | .programLine b f => wideCommand 0x81 b f
  | .statusQuery => bareCommand 0x82
  | .subscribe => bareCommand 0x83
  | .unsubscribe => bareCommand 0x84

/-! ## The opcode table's numbers -/

/-- Byte `i` of a number of `n` bytes, byte 0 the most significant (R71, R81). -/
def byteOfWord (n w i : Nat) : Byte := BitVec.ofNat 8 (w >>> (8 * (n - 1 - i)))

/-- The encoded object that a row of spec/opcode_table.json with `nbits` bits writes as the number `w` (R90): 64 bits a
setup packet, 48 a command word, 32 a notification record. -/
def encodedOfWord (nbits w : Nat) : Option Encoded :=
  if nbits = 64 then
    some (.setup8
      { bmRequestType := byteOfWord 8 w 0, bRequest := byteOfWord 8 w 1
        valueLo := byteOfWord 8 w 2, valueHi := byteOfWord 8 w 3
        indexLo := byteOfWord 8 w 4, indexHi := byteOfWord 8 w 5
        lengthLo := byteOfWord 8 w 6, lengthHi := byteOfWord 8 w 7 })
  else if nbits = 48 then
    some (.cmd48 { op := byteOfWord 6 w 0, arg := BitVec.ofNat 40 w })
  else if nbits = 32 then
    some (.notify4 (.record [byteOfWord 4 w 0, byteOfWord 4 w 1, byteOfWord 4 w 2, byteOfWord 4 w 3]))
  else none

/-- The operation the decoder reads from the number `w` of a row of `nbits` bits. -/
def decodeTableWord (nbits w : Nat) : Option Instr :=
  (encodedOfWord nbits w).bind fun e =>
    match decode e with
    | .ok i => some i
    | .error _ => none

end Sys2Proof
end

