-- ==== Sys2Proof/Machine/State.lean ====
section
/-!
DEFINITION. The state of the block, all of it plain data: the port's state (10_state.md R20 to R30), the phase (R27),
the operations in progress (R32), and, as the model's own fields, what the outside world has in store for the block
and what the block has put on its output ports (00_scope.md R9). The reset values are those of R36.
-/

namespace Sys2Proof.Machine

/-! ## Results, frames and events -/

/-- The three error kinds and no others (60_exceptions.md R230). -/
inductive ErrorKind
  /-- The Control Channel, or the subscription service asked by SUBSCRIBE, answered `Fail` (R231). -/
  | transferFailure
  /-- The requested rate cannot be represented (R233). -/
  | invalidBaudRate
  /-- A read completed with another number of bytes than was asked for (R232). -/
  | deviceProtocolError
deriving DecidableEq, Repr

/-- The record GET_LINES returns (R85, R151). -/
structure LineRecord where
  /-- Host intent for RTS. -/
  rts : Bool
  /-- Host intent for DTR. -/
  dtr : Bool
  /-- Last reported CTS. -/
  cts : Bool
  /-- Last reported DSR. -/
  dsr : Bool
  /-- Last reported RI. -/
  ri : Bool
  /-- Last reported DCD. -/
  dcd : Bool
deriving DecidableEq, Repr

/-- The BaudPlan (10_state.md R31), a transient value. -/
structure BaudPlan where
  /-- The chosen factor. -/
  factor : U16
  /-- The divisor, 0 to 3. -/
  divisor : Byte
  /-- The double clock is used. -/
  useDoubleClock : Bool
deriving DecidableEq, Repr

/-- The value of an `Ok` result (R85). -/
inductive Value
  /-- No value. -/
  | unit
  /-- The bytes of a read. -/
  | bytes (b : List Byte)
  /-- The record of GET_LINES. -/
  | lines (r : LineRecord)
  /-- The boolean of CARRIER_PRESENT. -/
  | flag (b : Bool)
  /-- The plan and the payload of SYNTHESIZE. -/
  | plan (p : BaudPlan) (payload : U16)
deriving DecidableEq, Repr

/-- What an operation puts on the RES port (R9, R85). -/
inductive Result
  /-- `Ok(v)`. -/
  | ok (v : Value)
  /-- `Err(kind)`. -/
  | err (k : ErrorKind)
  /-- `Refused` (R234). -/
  | refused
deriving DecidableEq, Repr

/-- The direction of a control frame (R70). -/
inductive Dir
  /-- Host to device. -/
  | toDevice
  /-- Device to host. -/
  | toHost
deriving DecidableEq, Repr

/-- A control frame as the block sends it (R70): the tuple without the data phase, which is empty for `OUT` and is the
channel's answer for `IN`. -/
structure Frame where
  /-- The direction. -/
  dir : Dir
  /-- The request code. -/
  req : Byte
  /-- The value field. -/
  value : U16
  /-- The index field. -/
  index : U16
  /-- The number of bytes of the data phase. -/
  length : U16
deriving DecidableEq, Repr

/-- The Control Channel's answer to one transfer (20_memory.md R64). For an `OUT` frame the bytes of `ok` mean nothing. -/
inductive Answer
  /-- The transfer succeeded, with the bytes of its data phase. -/
  | ok (bytes : List Byte)
  /-- `Fail`. -/
  | fail
deriving DecidableEq, Repr

/-- What the block puts on its output ports (R9). -/
inductive PortEvent
  /-- CTL: one control frame out. -/
  | sent (f : Frame)
  /-- SUB: `Submit`. -/
  | submit
  /-- SUB: `Cancel`. -/
  | cancel
  /-- EVT: `CarrierChange(b)`. -/
  | carrierChange (b : Bool)
  /-- EVT: `MonitorLost`. -/
  | monitorLost
  /-- RES: the result of an operation; `none` stands for a command word that names no operation (R86). -/
  | result (op : Option Instr) (r : Result)
deriving DecidableEq, Repr

/-! ## The port's state -/

/-- The LineState record `LS` (R20). -/
structure LineState where
  /-- `LS.baud_rate` (R21). -/
  baudRate : U32
  /-- `LS.frame_format` (R22). -/
  frameFormat : Byte
  /-- `LS.modem_control` (R23). -/
  modemControl : Byte
  /-- `LS.modem_status` (R24). -/
  modemStatus : Byte
deriving DecidableEq, Repr

/-- The four transition counters (R26): naturals with no upper bound. -/
structure Counters where
  /-- `cnt[CTS]`. -/
  cts : Nat
  /-- `cnt[DSR]`. -/
  dsr : Nat
  /-- `cnt[RI]`. -/
  ri : Nat
  /-- `cnt[DCD]`. -/
  dcd : Nat
deriving DecidableEq, Repr

/-- Everything that exists only between CLAIM and RELEASE (R36, R38). -/
structure Port where
  /-- The LineState record. -/
  ls : LineState
  /-- The transition counters. -/
  cnt : Counters
  /-- `sub_armed` (R28): a subscription is outstanding. -/
  subArmed : Bool
  /-- `stop_rearm` (R29): the monitor does not re-arm. -/
  stopRearm : Bool
  /-- `monitor_lost` (R30): a re-arm has failed. -/
  monitorLost : Bool
deriving DecidableEq, Repr

/-- The phase register (R27). -/
inductive Phase
  | unconfigured
  | probing
  | initialized
  | active
  | reconfiguring
  | released
deriving DecidableEq, Repr

/-! ## Operations in progress (R32) -/

/-- The caller of CONFIGURE (45_orchestrator.md R204), with RESUME's local `was_active`. -/
inductive BringUp
  | openPort
  | resume (wasActive : Bool)
deriving DecidableEq, Repr

/-- The caller of PROGRAM_LINE (41_baud_synth.md R132), with RECONFIGURE's locals `old_baud` and `f`. -/
inductive LineCaller
  | direct
  | reconfigure (oldBaud : U32) (frame : Byte)
  | configure (b : BringUp)
deriving DecidableEq, Repr

/-- The caller of STATUS_QUERY (42_modem_lines.md R154). -/
inductive QueryCaller
  | direct
  | openPort
  | resume
deriving DecidableEq, Repr

/-- What an operation does once the transfer it waits for has completed. -/
inductive After
  /-- It returns the transfer's outcome, with no value. -/
  | ret
  /-- It returns the transfer's outcome, with the bytes read. -/
  | retBytes
  /-- CONFIGURE after READ_VERSION. -/
  | version (b : BringUp)
  /-- CONFIGURE after SERIAL_INIT. -/
  | serialInit (b : BringUp)
  /-- CONFIGURE after MODEM_CTRL. -/
  | push (b : BringUp)
  /-- PROGRAM_LINE after its first write. -/
  | firstWrite (frame : Byte) (k : LineCaller)
  /-- PROGRAM_LINE after its second write. -/
  | secondWrite (k : LineCaller)
  /-- STATUS_QUERY after its read. -/
  | query (k : QueryCaller)
  /-- SET_BREAK after its read. -/
  | breakRead (active : Bool)
deriving DecidableEq, Repr

/-- The position of an invocation of the command agent, with its locals: the next segment it takes. -/
inductive Pos
  /-- It is about to issue a control frame. -/
  | send (f : Frame) (k : After)
  /-- Its frame is on the channel; it waits for the completion. -/
  | await (f : Frame) (k : After)
  /-- The completion has come; the code after the transfer is next. -/
  | answered (f : Frame) (a : Answer) (k : After)
  /-- SET_BAUD_RATE or SET_FRAME_FORMAT has read the other half and calls RECONFIGURE (R207, R208). -/
  | reconfigure (baud : U32) (frame : Byte)
  /-- RECONFIGURE is about to store the new rate (R206). -/
  | swapBaud (baud : U32) (frame : Byte)
  /-- RECONFIGURE is about to restore the old rate after a rejected one (R206). -/
  | rollback (oldBaud : U32) (k : ErrorKind)
  /-- RESUME is about to report a refused subscription (R209). -/
  | reportLost
  /-- A lifecycle operation is about to write its last phase and return. -/
  | finish (p : Phase) (r : Result)
  /-- RELEASE waits until no NOTIFY is in progress (R210). -/
  | releaseWait
deriving DecidableEq, Repr

/-- One invocation of the command agent that has started and not returned. -/
structure Task where
  /-- The operation. -/
  op : Instr
  /-- Where it stands. -/
  pos : Pos
deriving DecidableEq, Repr

/-- The position of the monitor agent's handler (43_status_monitor.md R170), with its locals. -/
inductive MonPos
  /-- Delivered; the status is about to be decoded and stored. -/
  | decode (d : Delivery)
  /-- Stored; the counters and the event are next. -/
  | count (delta status : Byte)
  /-- The re-arm step is next (R177). -/
  | rearm
deriving DecidableEq, Repr

/-! ## What the outside world has in store -/

/-- The next thing that happens at the block's input ports, or the agent that moves next. -/
inductive Input
  /-- An operation is invoked (CMD), a codec operation is called, or a notification is delivered (NTF). -/
  | call (e : Encoded)
  /-- The invocation at this place of the list of invocations in progress goes on. -/
  | proceed (k : Nat)
  /-- The notification handler in progress goes on. -/
  | proceedMonitor
deriving DecidableEq, Repr

/-! ## The state -/

/-- The state of the block. -/
structure State where
  /-- The implementation's parameters (00_scope.md R6). No step changes them. -/
  cfg : Config.Params
  /-- The phase register. -/
  phase : Phase
  /-- The port's state; `none` before the first CLAIM and after a RELEASE, where it holds no value (R36). -/
  port : Option Port
  /-- The command agent's invocations in progress (R32). They have no identifiers (60_exceptions.md R249). -/
  pool : List Task
  /-- The notification handler in progress, at most one (R180, R237). -/
  monitor : Option MonPos
  /-- MODEL: what happens at the input ports, and who moves, in order. -/
  inbox : List Input
  /-- MODEL: the Control Channel's answers, in the order the transfers complete. -/
  answers : List Answer
  /-- MODEL: the subscription service's answers (`true` for `Ok`), in the order of the `Submit`s. -/
  grants : List Bool
  /-- MODEL: how many segments an agent takes after its first before another may move, one number a turn. -/
  slices : List Nat
  /-- MODEL: how many `Submit`s were answered by the free value. -/
  asked : Nat
  /-- MODEL: what the block has put on its output ports, oldest first. -/
  out : List PortEvent
deriving DecidableEq, Repr

/-- The machine stops with a fault. -/
inductive Fault
  /-- Raised by a segment that reads or writes the port's state while there is none (R36: "reading one is an error of
  the model, not a value"; 70_reset_and_hazards.md R275: "would have no state to write"; log entry 12). SAFE: the model
  stops where the block would use discarded state; under the host's duty of R211 no run comes here. -/
  | noLineState
deriving DecidableEq, Repr

/-- The machine has no meaning for what was asked of it. -/
inductive Refusal
  /-- Raised by an arm of `exec` whose instruction has no meaning yet. SAFE. -/
  | notModelled (mnemonic : String)
  /-- Raised by an operation, legal in its phase, that the host starts against its duty of R211: a lifecycle operation
  while another is in progress, RESUME or RELEASE while anything is, and anything while RESUME or RELEASE is (U8: "the
  model gives the host no such move"; log entry 9). SAFE. -/
  | hostDuty
  /-- Raised by `step` for a setup packet that is none of the five frames of R72 (R86). SAFE. -/
  | unknownFrame
deriving DecidableEq, Repr

/-- The outcome of a step of this machine. -/
abbrev Out := Host.Outcome State Fault Refusal

/-- The port's state just after CLAIM (R36). `modem_status` and the counters are the spec's decisions D14 and D13. -/
def Port.atClaim (c : Config.Params) : Port :=
  { ls := { baudRate := Config.resetBaud, frameFormat := c.ff8N1, modemControl := 0, modemStatus := 0 }
    cnt := { cts := 0, dsr := 0, ri := 0, dcd := 0 }
    subArmed := false
    stopRearm := false
    monitorLost := false }

/-- The machine before the first CLAIM (R36, R260): phase `Released`, no port. -/
def State.unclaimed : State :=
  { cfg := Config.implementation, phase := .released, port := none, pool := [], monitor := none
    inbox := [], answers := [], grants := [], slices := [], asked := 0, out := [] }

/-- The machine right after its reset event, CLAIM (R36, R260, R261): every field at the value of R36's table, no
operation in progress, no notification pending, nothing placed on any port. DESIGN CHOICE of the reading (log
entry 1): the state before the first CLAIM is `State.unclaimed`. -/
def State.reset : State :=
  { State.unclaimed with phase := .unconfigured, port := some (Port.atClaim Config.implementation) }

end Sys2Proof.Machine
end

