-- ==== Sys2Proof/Machine/Operands.lean ====
section
/-!
DEFINITION. Operand assembly: the five control frames (30_encoding.md R73 to R77), the register values (R78, R79,
R82), the constants derived from the parameters (00_scope.md R7), and the bytes SET_LINES, RAISE_LINES and SET_BREAK
compute.
-/

namespace Sys2Proof.Machine

/-! ## Derived constants (R7) -/

/-- `CTRL_MASK = RTS_BIT | DTR_BIT`. -/
def ctrlMask (c : Config.Params) : Byte := c.rtsBit ||| c.dtrBit

/-- `SEL_BREAK = (LCR_REG << 8) | BREAK_REG`. -/
def selBreak (c : Config.Params) : U16 := pack16 c.lcrReg c.breakReg

/-! ## Control frames (R72) -/

/-- The WRITE_REG frame (R73): value = register value, index = selector. -/
def writeRegFrame (selector value : U16) : Frame :=
  { dir := .toDevice, req := Config.reqWriteReg, value := value, index := selector, length := 0 }

/-- The READ_REG frame (R74): value = selector, index = 0. -/
def readRegFrame (selector : U16) (len : Nat) : Frame :=
  { dir := .toHost, req := Config.reqReadReg, value := selector, index := 0, length := BitVec.ofNat 16 len }

/-- The READ_VERSION frame (R75). -/
def readVersionFrame : Frame :=
  { dir := .toHost, req := Config.reqReadVersion, value := 0, index := 0, length := BitVec.ofNat 16 Config.versionLen }

/-- The SERIAL_INIT frame (R76). -/
def serialInitFrame : Frame :=
  { dir := .toDevice, req := Config.reqSerialInit, value := 0, index := 0, length := 0 }

/-- The MODEM_CTRL frame (R77): value = `zext_16(~_8 ctl)`. The complement of R107's first place. -/
def modemCtrlFrame (ctl : Byte) : Frame :=
  { dir := .toDevice, req := Config.reqModemCtrl, value := zext16 (not8 ctl), index := 0, length := 0 }

/-- The setup packet a frame is sent as (R71). -/
def Frame.packet (f : Frame) : SetupPacket :=
  setupPacket (match f.dir with | .toDevice => 0x40 | .toHost => 0xC0) f.req f.value f.index f.length

/-! ## Register values -/

/-- The baud payload (R78, R128): `pack16(256 - factor, 0x80 | (double ? 0x04 : 0) | divisor)`. -/
def baudPayload (factor divisor : Nat) (double : Bool) : U16 :=
  pack16 (BitVec.ofNat 8 (256 - factor))
    (Config.payloadFlush ||| (if double then Config.payloadDouble else 0) ||| BitVec.ofNat 8 divisor)

/-- The first frame of PROGRAM_LINE (R132): the payload to `SEL_BAUD`. -/
def baudFrame (payload : U16) : Frame := writeRegFrame Config.selBaud payload

/-- The second frame of PROGRAM_LINE (R79, R132): the zero-extended frame-format byte to `SEL_FRAME`. -/
def formatFrame (frame : Byte) : Frame := writeRegFrame Config.selFrame (zext16 frame)

/-- The frame STATUS_QUERY sends (R154). -/
def statusFrame (c : Config.Params) : Frame := readRegFrame c.statusSelector c.statusQueryLen

/-- The frame SET_BREAK reads the pair with (R190). -/
def breakReadFrame (c : Config.Params) : Frame := readRegFrame (selBreak c) 2

/-! ## Computed bytes -/

/-- SET_LINES (R150): OR the set bits in, then clear; only `CTRL_MASK` of each mask is looked at. -/
def combineLines (c : Config.Params) (control setMask clearMask : Byte) : Byte :=
  (control ||| (setMask &&& ctrlMask c)) &&& not8 (clearMask &&& ctrlMask c)

/-- RAISE_LINES (R152): both lines set, or both cleared. -/
def raisedLines (c : Config.Params) (control : Byte) (on : Bool) : Byte :=
  if on then control ||| ctrlMask c else control &&& not8 (ctrlMask c)

/-- RECONFIGURE (R206): both enable bits are forced into the byte. -/
def enabledFormat (c : Config.Params) (frame : Byte) : Byte := frame ||| c.ffRxEn ||| c.ffTxEn

/-- SET_BREAK (R190) on the break-control byte: cleared when active, set when not. -/
def breakControlByte (c : Config.Params) (active : Bool) (brk : Byte) : Byte :=
  if active then brk &&& not8 c.breakBit else brk ||| c.breakBit

/-- SET_BREAK (R190) on the frame-format byte: TX enable cleared when active, set when not. -/
def breakFormatByte (c : Config.Params) (active : Bool) (lcr : Byte) : Byte :=
  if active then lcr &&& not8 c.ffTxEn else lcr ||| c.ffTxEn

/-- The value SET_BREAK writes back (R82, R190): `pack16(lcr, brk)`. -/
def breakValue (c : Config.Params) (active : Bool) (brk lcr : Byte) : U16 :=
  pack16 (breakFormatByte c active lcr) (breakControlByte c active brk)

/-- The frame SET_BREAK writes the pair back with (R190). -/
def breakWriteFrame (c : Config.Params) (active : Bool) (brk lcr : Byte) : Frame :=
  writeRegFrame (selBreak c) (breakValue c active brk lcr)

end Sys2Proof.Machine
end

