-- ==== Sys2Proof/Machine/Baud.lean ====
section
/-!
DEFINITION. The baud-rate divisor synthesizer (41_baud_synth.md R120 to R131), over naturals (R130), and the meaning
of SYNTHESIZE.
-/

namespace Sys2Proof.Machine

/-- Rounding division (R120): to the nearest integer, an exact half rounded up. -/
def rdiv (a b : Nat) : Nat := (a + b / 2) / b

/-- `abs` of a difference, the larger minus the smaller (R130). -/
def absDiff (a b : Nat) : Nat := if a ≤ b then b - a else a - b

/-- A candidate of the search (R121). -/
structure Candidate where
  /-- The factor after the loop. -/
  factor : Nat
  /-- The divisor, 0 to 3. -/
  divisor : Nat
  /-- The prescaler, `8^(3 - divisor)`. -/
  shift : Nat
deriving DecidableEq, Repr

/-- The loop of the search (R121): while the factor is above 255 and the divisor above 0. -/
def shiftLoop : Nat → Nat → Nat → Candidate
  | 0, factor, shift => { factor := factor, divisor := 0, shift := shift }
  | d + 1, factor, shift =>
    if factor > Config.factorLimit then shiftLoop d (factor >>> 3) (shift <<< 3)
    else { factor := factor, divisor := d + 1, shift := shift }

/-- `Candidate(clock, baud)` (R121). -/
def candidate (clock baud : Nat) : Candidate := shiftLoop Config.maxDiv (rdiv clock baud) 1

/-- The achieved rate of a candidate (R122). -/
def Candidate.achieved (c : Candidate) (clock : Nat) : Nat := rdiv clock (c.factor * c.shift)

/-- The error of a candidate (R122). -/
def Candidate.diff (c : Candidate) (clock baud : Nat) : Nat := absDiff (c.achieved clock) baud

/-- The double-clock candidate is adopted (R124): its factor is above 8 and its error strictly smaller. -/
def doubleAdopted (baud : Nat) : Bool :=
  let c1 := candidate Config.base baud
  let c2 := candidate (2 * Config.base) baud
  decide (c2.factor > Config.doubleMinFactor) &&
    decide (c2.diff (2 * Config.base) baud < c1.diff Config.base baud)

/-- The chosen candidate (R123, R124). -/
def chosen (baud : Nat) : Candidate :=
  if doubleAdopted baud then candidate (2 * Config.base) baud else candidate Config.base baud

/-- SYNTHESIZE (R129): the plan and the payload, or `InvalidBaudRate`. -/
def synthesizeRate (baud : U32) : Except ErrorKind (BaudPlan × U16) :=
  let b := baud.toNat
  if b = 0 then .error .invalidBaudRate
  else if (candidate Config.base b).factor = 0 then .error .invalidBaudRate
  else if (chosen b).factor < 2 ∨ (chosen b).factor > 256 then .error .invalidBaudRate
  else .ok
    ({ factor := BitVec.ofNat 16 (chosen b).factor
       divisor := BitVec.ofNat 8 (chosen b).divisor
       useDoubleClock := doubleAdopted b },
     baudPayload (chosen b).factor (chosen b).divisor (doubleAdopted b))

end Sys2Proof.Machine
end

