-- ==== Sys2Proof/Machine/Flags.lean ====
section
/-!
DEFINITION. The block has no condition flags (10_state.md R33). What its operations compute from single bits stands
here: the decoded status, the delta, the counters' increments, and the booleans of GET_LINES and CARRIER_PRESENT.
-/

namespace Sys2Proof.Machine

/-- The inverted status nibble decoded (R81, R83): `(~_8 b) & 0x0F`. The complements of R107's other two places. -/
def decodeStatus (b : Byte) : Byte := not8 b &&& Config.statusMask

/-- `(b & mask) != 0`. -/
def anyBit (b mask : Byte) : Bool := (b &&& mask) != 0

/-- `delta = status XOR modem_status` (R170). -/
def statusDelta (status old : Byte) : Byte := status ^^^ old

/-- `n + 1` when the bit is set in `delta`, else `n` (R173). -/
def bump (delta mask : Byte) (n : Nat) : Nat := if anyBit delta mask then n + 1 else n

/-- The counters after a notification with this `delta` (R170). -/
def Counters.after (c : Counters) (delta : Byte) : Counters :=
  { cts := bump delta Config.stCts c.cts
    dsr := bump delta Config.stDsr c.dsr
    ri := bump delta Config.stRi c.ri
    dcd := bump delta Config.stDcd c.dcd }

/-- `CarrierChange` of a notification (R170, R175): emitted when DCD changed, with the new value. -/
def carrierEvents (delta status : Byte) : List PortEvent :=
  if anyBit delta Config.stDcd then [.carrierChange (anyBit status Config.stDcd)] else []

/-- The DCD bit of a status (R153). -/
def carrierBit (status : Byte) : Bool := anyBit status Config.stDcd

/-- The record of GET_LINES (R151). -/
def lineRecord (c : Config.Params) (control status : Byte) : LineRecord :=
  { rts := anyBit control c.rtsBit
    dtr := anyBit control c.dtrBit
    cts := anyBit status Config.stCts
    dsr := anyBit status Config.stDsr
    ri := anyBit status Config.stRi
    dcd := anyBit status Config.stDcd }

end Sys2Proof.Machine
end

