-- ==== Sys2Proof/Machine/Ops.lean ====
section
/-!
DEFINITION. The named operations over the state: the output ports, the port's fields, the subscription (with the
entry and the return of a notification), the outcome of a transfer, the error result, the legality table and the
host's duty, and the schedule.
-/

namespace Sys2Proof.Machine

/-! ## Output ports (00_scope.md R9) -/

/-- Put events on the output ports. -/
def State.emit (s : State) (es : List PortEvent) : State := { s with out := s.out ++ es }

/-- Put the result of an operation on the RES port. -/
def State.respond (s : State) (op : Option Instr) (r : Result) : State := s.emit [.result op r]

/-! ## The port's fields -/

/-- Write the port's state. -/
def State.setPort (s : State) (p : Port) : State := { s with port := some p }

/-- `phase <- P`. -/
def State.setPhase (s : State) (p : Phase) : State := { s with phase := p }

/-- `LS.baud_rate <- b`. -/
def Port.setBaud (p : Port) (b : U32) : Port := { p with ls := { p.ls with baudRate := b } }

/-- `LS.frame_format <- f`. -/
def Port.setFormat (p : Port) (f : Byte) : Port := { p with ls := { p.ls with frameFormat := f } }

/-- `LS.modem_control <- c`. -/
def Port.setControl (p : Port) (c : Byte) : Port := { p with ls := { p.ls with modemControl := c } }

/-- `LS.modem_status <- s`. -/
def Port.setStatus (p : Port) (st : Byte) : Port := { p with ls := { p.ls with modemStatus := st } }

/-! ## The outcome of a segment -/

/-- What one segment of an invocation (00_scope.md R13: the code between two points where another agent may move)
comes to. -/
inductive Seg
  /-- The invocation stands at its next segment. -/
  | go (pos : Pos) (s : State)
  /-- It returns. -/
  | ret (r : Result) (s : State)
  /-- It cannot move: the channel is taken, no completion has come, or a handler is in progress. -/
  | blocked (pos : Pos) (s : State)
  /-- It uses state that does not exist. -/
  | fault (f : Fault)
deriving DecidableEq, Repr

/-- An error result (60_exceptions.md R236, R242): the one operation by which every operation ends with an error. It
saves nothing and redirects nothing; the state is the one its caller's rule gives. -/
def raise (k : ErrorKind) (s : State) : Seg := .ret (.err k) s

/-- A segment that uses the port's state. -/
def withPort (s : State) (f : Port → Seg) : Seg :=
  match s.port with
  | some p => f p
  | none => .fault .noLineState

/-! ## Transfers (20_memory.md R64) -/

/-- The channel carries one transfer at a time (R64 (5)): some invocation's frame is on it. -/
def State.channelBusy (s : State) : Bool :=
  s.pool.any fun t => match t.pos with
    | .await _ _ => true
    | _ => false

/-- The error mapping of 40_register_codec.md R103, the same for every codec operation: `Fail` gives
`TransferFailure`; an `IN` frame that completes with another number of bytes than asked for gives
`DeviceProtocolError`. -/
def Frame.completion (f : Frame) : Answer → Except ErrorKind (List Byte)
  | .fail => .error .transferFailure
  | .ok bytes =>
    match f.dir with
    | .toDevice => .ok []
    | .toHost => if bytes.length = f.length.toNat then .ok bytes else .error .deviceProtocolError

/-- The channel's answer to this frame (R64 (1), (2)): `Ok` never carries more bytes than were asked for, and none for
an `OUT` frame, whose length is 0. A listed answer stands for its first bytes (log entry 6). -/
def Frame.reply (f : Frame) : Answer → Answer
  | .fail => .fail
  | .ok bytes => .ok (bytes.take f.length.toNat)

/-- What a whole transfer of this frame comes to when this is the channel's next listed answer. -/
def Frame.outcome (f : Frame) (a : Answer) : Except ErrorKind (List Byte) := f.completion (f.reply a)

/-! ## The subscription (20_memory.md R65) -/

/-- `SubSubmit()`: one `Submit` on the SUB port, and the service's answer. Where the state lists none, the answer is
free (log entry 6). -/
def State.submit (s : State) : Bool × State :=
  match s.grants with
  | g :: gs => (g, { s with grants := gs, out := s.out ++ [.submit] })
  | [] => (Config.freeGrant s.asked, { s with asked := s.asked + 1, out := s.out ++ [.submit] })

/-- The atomic block of SUBSCRIBE (43_status_monitor.md R178): `true` for `Ok`. -/
def State.subscribe (s : State) (p : Port) : Bool × State :=
  if p.subArmed then (true, s)
  else
    match s.submit with
    | (true, s') => (true, s'.setPort { p with subArmed := true, stopRearm := false, monitorLost := false })
    | (false, s') => (false, s')

/-- The result of SUBSCRIBE (R178): `TransferFailure` where the subscription was refused. -/
def grantResult (granted : Bool) : Result := if granted then .ok .unit else .err .transferFailure

/-- The atomic block of UNSUBSCRIBE (R179): re-arming is forbidden and the outstanding subscription, if any, is
cancelled, in one step. -/
def State.unsubscribe (s : State) (p : Port) : State :=
  (s.setPort { p with stopRearm := true, subArmed := false }).emit (if p.subArmed then [.cancel] else [])

/-- A notification is delivered exactly when a subscription is outstanding (R65, U4) and no other is being handled
(R180). -/
def State.deliverable (s : State) : Bool :=
  s.monitor.isNone && (match s.port with
    | some p => p.subArmed
    | none => false)

/-- Notification entry (60_exceptions.md R243): the delivery consumes the subscription and starts the handler with the
delivered bytes; nothing of the command agent's state is saved or changed. -/
def State.deliver (s : State) (p : Port) (d : Delivery) : State :=
  { s.setPort { p with subArmed := false } with monitor := some (.decode d) }

/-- Notification return (R177, R244): the re-arm, one atomic block. -/
def State.rearm (s : State) (p : Port) : State :=
  let s' :=
    if !p.stopRearm && !p.subArmed then
      match s.submit with
      | (true, s') => s'.setPort { p with subArmed := true }
      | (false, s') => (s'.setPort { p with monitorLost := true }).emit [.monitorLost]
    else s
  { s' with monitor := none }

/-! ## Legality and the host's duty -/

/-- The legality table (45_orchestrator.md R201). -/
def legal (op : Instr) (p : Phase) : Bool :=
  match op with
  | .claim => p == .released
  | .openPort => p == .unconfigured
  | .reconfigure _ _ => p == .active
  | .setBaudRate _ => p == .active
  | .setFrameFormat _ => p == .active
  | .resume => p == .unconfigured || p == .active
  | .release => p == .unconfigured || p == .active
  | .setLines _ _ => p == .active || p == .reconfiguring
  | .raiseLines _ => p == .active || p == .reconfiguring
  | .setBreak _ => p == .active || p == .reconfiguring
  | .getLines => p != .released
  | .carrierPresent => p != .released
  | .writeReg _ _ => true
  | .readReg _ _ => true
  | .readVersion => true
  | .serialInit => true
  | .modemCtrl _ => true
  | .notify _ => true
  | .synthesize _ => true
  | .programLine _ _ => true
  | .statusQuery => true
  | .subscribe => true
  | .unsubscribe => true

/-- The lifecycle operations (R211). -/
def isLifecycle (op : Instr) : Bool :=
  match op with
  | .claim | .openPort | .reconfigure _ _ | .setBaudRate _ | .setFrameFormat _ | .resume | .release => true
  | .writeReg _ _ | .readReg _ _ | .readVersion | .serialInit | .modemCtrl _ | .notify _ => false
  | .setLines _ _ | .getLines | .raiseLines _ | .carrierPresent | .setBreak _ => false
  | .synthesize _ | .programLine _ _ | .statusQuery | .subscribe | .unsubscribe => false

/-- RESUME and RELEASE, which the host runs with no other operation of the command agent: it does not start them while
one is in progress, and no other is among those that "may be in progress together" with them (R211). -/
def needsQuiet (op : Instr) : Bool :=
  match op with
  | .resume | .release => true
  | .claim | .openPort | .reconfigure _ _ | .setBaudRate _ | .setFrameFormat _ => false
  | .writeReg _ _ | .readReg _ _ | .readVersion | .serialInit | .modemCtrl _ | .notify _ => false
  | .setLines _ _ | .getLines | .raiseLines _ | .carrierPresent | .setBreak _ => false
  | .synthesize _ | .programLine _ _ | .statusQuery | .subscribe | .unsubscribe => false

/-- The operation is the monitor agent's, which may run "with everything" (R211). -/
def isNotification (op : Instr) : Bool :=
  match op with
  | .notify _ => true
  | .claim | .openPort | .reconfigure _ _ | .setBaudRate _ | .setFrameFormat _ | .resume | .release => false
  | .writeReg _ _ | .readReg _ _ | .readVersion | .serialInit | .modemCtrl _ => false
  | .setLines _ _ | .getLines | .raiseLines _ | .carrierPresent | .setBreak _ => false
  | .synthesize _ | .programLine _ _ | .statusQuery | .subscribe | .unsubscribe => false

/-- The host's duty (R211, U8; log entry 9): lifecycle operations one at a time; RELEASE and RESUME only when no
operation of the command agent is in progress; and, while one of these two is, no operation but a notification. -/
def dutyKept (op : Instr) (s : State) : Bool :=
  (!isLifecycle op || s.pool.all fun t => !isLifecycle t.op) && (!needsQuiet op || s.pool.isEmpty) &&
    (isNotification op || s.pool.all fun t => !needsQuiet t.op)

/-! ## The schedule (00_scope.md R13; log entry 3) -/

/-- How many segments the agent that moves now takes after its first. -/
def State.slice (s : State) : Nat := s.slices.headD Config.fullSlice

/-- The turn's number is used up. -/
def State.takeSlice (s : State) : State := { s with slices := s.slices.tail }

/-- An invocation that has not returned stays in progress (R32). -/
def State.park (s : State) (op : Instr) (pos : Pos) : State :=
  { s with pool := s.pool ++ [{ op := op, pos := pos }] }

end Sys2Proof.Machine
end

