-- ==== Sys2Proof/Machine/Advance.lean ====
section
/-!
DEFINITION. What an invocation in progress does at each of its positions (10_state.md R32): the pseudocode of
41_baud_synth.md R132, 42_modem_lines.md R154, 44_break.md R190 and 45_orchestrator.md R204 to R210, cut into segments
at the points where another agent may move (00_scope.md R13). A segment holds at most one atomic block or one step of
a transfer, and the phase writes that no other agent can tell from it (log entry 4).
-/

namespace Sys2Proof.Machine

/-! ## PROGRAM_LINE (R132) -/

/-- PROGRAM_LINE up to its first write, for a caller: a rejected rate ends it before any frame is sent. -/
def lineStart (k : LineCaller) (baud : U32) (frame : Byte) (s : State) : Seg :=
  match synthesizeRate baud with
  | .ok (_, payload) => .go (.send (baudFrame payload) (.firstWrite frame k)) s
  | .error e =>
    match k with
    | .direct => raise e s
    | .reconfigure old _ => .go (.rollback old e) s
    | .configure _ => .go (.finish .unconfigured (.err e)) s

/-- RECONFIGURE's rollback (R206): `LS.baud_rate <- old_baud`. -/
def restoreBaud (old : U32) (k : ErrorKind) (s : State) : Seg :=
  withPort s fun p => .go (.finish .active (.err k)) (s.setPort (p.setBaud old))

/-- A write of PROGRAM_LINE has failed: what the caller does with the error (R132, R204, R206). -/
def lineFailed (k : LineCaller) (e : ErrorKind) (s : State) : Seg :=
  match k with
  | .direct => raise e s
  | .reconfigure old _ => restoreBaud old e s
  | .configure _ => raise e (s.setPhase .unconfigured)

/-- Both writes of PROGRAM_LINE have succeeded: RECONFIGURE stores the byte (R206); CONFIGURE reads the modem-control
byte and pushes it (R204). -/
def lineDone (k : LineCaller) (s : State) : Seg :=
  match k with
  | .direct => .ret (.ok .unit) s
  | .reconfigure _ f => withPort s fun p => .go (.finish .active (.ok .unit)) (s.setPort (p.setFormat f))
  | .configure b => withPort s fun p => .go (.send (modemCtrlFrame p.ls.modemControl) (.push b)) s

/-! ## STATUS_QUERY (R154) -/

/-- STATUS_QUERY failed: OPEN and RESUME withdraw the subscription (R205, R209). -/
def queryFailed (k : QueryCaller) (e : ErrorKind) (s : State) : Seg :=
  match k with
  | .direct => raise e s
  | .openPort => withPort s fun p => .go (.finish .unconfigured (.err e)) (s.unsubscribe p)
  | .resume => withPort s fun p => .go (.finish .unconfigured (.err e)) (s.unsubscribe p)

/-- STATUS_QUERY has its reply: the decoded status is stored; nothing is counted and no event is raised. A reply that
does not hold the status byte (which R6's constraint rules out) is a reply of the wrong length (log entry 15). The spec
does not say what a reply does that comes after RELEASE, in a port that a new CLAIM has created (R275: the query "would
have no state to write"): under R211 no run comes to such a state; the model's choice there (log entry 12) is that it
is stored in the port there is. -/
def queryDone (k : QueryCaller) (bytes : List Byte) (s : State) : Seg :=
  match bytes[s.cfg.statusQueryByte]? with
  | none => queryFailed k .deviceProtocolError s
  | some b => withPort s fun p =>
    let s' := s.setPort (p.setStatus (decodeStatus b))
    match k with
    | .direct => .ret (.ok .unit) s'
    | .openPort => .go (.finish .active (.ok .unit)) s'
    | .resume => .go (.finish .active (.ok .unit)) s'

/-! ## CONFIGURE, ACTIVATE and the tail of RESUME (R204, R205, R209) -/

/-- A step of CONFIGURE failed: the phase goes back to `Unconfigured` and the error is returned. -/
def abortBringUp (e : ErrorKind) (s : State) : Seg := raise e (s.setPhase .unconfigured)

/-- CONFIGURE is done. OPEN goes on with ACTIVATE; RESUME subscribes and queries only if the port was `Active`, and a
refused subscription is only reported. -/
def configured (b : BringUp) (s : State) : Seg :=
  match b with
  | .openPort => withPort s fun p =>
    match s.subscribe p with
    | (true, s') => .go (.send (statusFrame s.cfg) (.query .openPort)) s'
    | (false, s') => .go (.finish .unconfigured (.err .transferFailure)) s'
  | .resume true => withPort s fun p =>
    match s.subscribe p with
    | (true, s') => .go (.send (statusFrame s.cfg) (.query .resume)) s'
    | (false, s') => .go .reportLost s'
  | .resume false => .ret (.ok .unit) (s.setPhase .unconfigured)

/-! ## After a transfer -/

/-- What follows a transfer that failed (R236: the error is passed on unchanged, after the caller's cleanup). -/
def afterFailure (k : After) (e : ErrorKind) (s : State) : Seg :=
  match k with
  | .ret => raise e s
  | .retBytes => raise e s
  | .version _ => abortBringUp e s
  | .serialInit _ => abortBringUp e s
  | .push _ => abortBringUp e s
  | .firstWrite _ c => lineFailed c e s
  | .secondWrite c => lineFailed c e s
  | .query c => queryFailed c e s
  | .breakRead _ => raise e s

/-- What follows a transfer that succeeded with these bytes. -/
def afterSuccess (k : After) (bytes : List Byte) (s : State) : Seg :=
  match k with
  | .ret => .ret (.ok .unit) s
  | .retBytes => .ret (.ok (.bytes bytes)) s
  | .version b => .go (.send serialInitFrame (.serialInit b)) (s.setPhase .initialized)
  | .serialInit b => withPort s fun p => lineStart (.configure b) p.ls.baudRate p.ls.frameFormat s
  | .push b => configured b s
  | .firstWrite f c => .go (.send (formatFrame f) (.secondWrite c)) s
  | .secondWrite c => lineDone c s
  | .query c => queryDone c bytes s
  | .breakRead active =>
    match bytes with
    | [brk, lcr] => .go (.send (breakWriteFrame s.cfg active brk lcr) .ret) s
    | _ => raise .deviceProtocolError s

/-- The code after a transfer, by its outcome (40_register_codec.md R103). -/
def afterTransfer (k : After) (r : Except ErrorKind (List Byte)) (s : State) : Seg :=
  match r with
  | .ok bytes => afterSuccess k bytes s
  | .error e => afterFailure k e s

/-! ## One segment -/

/-- RECONFIGURE's phase test and the phase's change (R206); the byte has both enable bits from here on. -/
def reconfigureEntry (baud : U32) (frame : Byte) (s : State) : Seg :=
  if s.phase = .active then .go (.swapBaud baud (enabledFormat s.cfg frame)) (s.setPhase .reconfiguring)
  else .ret .refused s

/-- One segment of an invocation in progress. -/
def advance (pos : Pos) (s : State) : Seg :=
  match pos with
  | .send f k => if s.channelBusy then .blocked pos s else .go (.await f k) (s.emit [.sent f])
  | .await f k =>
    match s.answers with
    | [] => .blocked pos s
    | a :: rest => .go (.answered f (f.reply a) k) { s with answers := rest }
  | .answered f a k => afterTransfer k (f.completion a) s
  | .reconfigure baud frame => reconfigureEntry baud frame s
  | .swapBaud baud f => withPort s fun p =>
    lineStart (.reconfigure p.ls.baudRate f) baud f (s.setPort (p.setBaud baud))
  | .rollback old k => restoreBaud old k s
  | .reportLost => withPort s fun p =>
    .go (.send (statusFrame s.cfg) (.query .resume)) ((s.setPort { p with monitorLost := true }).emit [.monitorLost])
  | .finish p r => .ret r (s.setPhase p)
  | .releaseWait =>
    if s.monitor.isNone then .ret (.ok .unit) { s with phase := .released, port := none } else .blocked pos s

end Sys2Proof.Machine
end

