-- ==== Sys2Proof/Machine/Run.lean ====
section
/-!
DEFINITION. How agents move (00_scope.md R8, R13): an invocation of the command agent takes segments until it
returns, must wait, or its turn is over; the monitor agent likewise; and what a step does at each kind of input.
-/

namespace Sys2Proof.Machine

/-! ## The command agent -/

/-- An invocation goes on from the outcome of a segment, for at most so many further segments. One that has not
returned stays in progress. -/
def drive : Nat → Instr → Seg → Out
  | _, op, .ret r s => .next (s.respond (some op) r)
  | _, _, .fault f => .fault f
  | _, op, .blocked pos s => .next (s.park op pos)
  | 0, op, .go pos s => .next (s.park op pos)
  | n + 1, op, .go pos s => drive n op (advance pos s)

/-- An operation is invoked: the phase test comes first and gives `Refused`, with nothing else done (R201, R234,
R240); then the host's duty (R211); then its first segment. -/
def invoke (op : Instr) (s : State) (first : State → Seg) : Out :=
  if legal op s.phase then
    if dutyKept op s then drive s.slice op (first s.takeSlice) else .refused .hostDuty
  else .next (s.respond (some op) .refused)

/-- The operations whose callers check the phase and which use the port's state (SUBSCRIBE, UNSUBSCRIBE, STATUS_QUERY):
invoked where there is none, they are `Refused` (U19; log entry 8). -/
def invokeOnPort (op : Instr) (s : State) (first : Port → State → Seg) : Out :=
  match s.port with
  | none => .next (s.respond (some op) .refused)
  | some p => invoke op s (first p)

/-- The invocation at a place of the list goes on; where there is none, nothing happens. -/
def proceedTask (k : Nat) (s : State) : Out :=
  match s.pool[k]? with
  | none => .next s
  | some t => drive s.slice t.op (advance t.pos { s.takeSlice with pool := s.pool.eraseIdx k })

/-! ## The monitor agent (43_status_monitor.md R170) -/

/-- The port's state as the handler finds it. -/
def monitorOnPort (s : State) (f : Port → State) : Out :=
  match s.port with
  | some p => .next (f p)
  | none => .fault .noLineState

/-- The handler's first atomic block, for a notification of at least 4 bytes: the delta is computed and the status
stored. -/
def storeStatus (inv : Byte) (s : State) : Out :=
  monitorOnPort s fun p =>
    { s.setPort (p.setStatus (decodeStatus inv)) with
      monitor := some (.count (statusDelta (decodeStatus inv) p.ls.modemStatus) (decodeStatus inv)) }

/-- The handler's counters and event, outside the lock. -/
def countChanges (delta status : Byte) (s : State) : Out :=
  monitorOnPort s fun p =>
    { (s.setPort { p with cnt := p.cnt.after delta }).emit (carrierEvents delta status) with monitor := some .rearm }

/-- One segment of the handler. A notification of fewer than 4 bytes, or delivered as failed, is discarded (R171,
R182); the re-arm follows all the same (R177). -/
def monitorSegment (m : MonPos) (s : State) : Out :=
  match m with
  | .decode (.record (_ :: _ :: inv :: _ :: _)) => storeStatus inv s
  | .decode _ => .next { s with monitor := some .rearm }
  | .count delta status => countChanges delta status s
  | .rearm => monitorOnPort s fun p => s.rearm p

/-- The handler in progress takes at most so many segments. -/
def runMonitor : Nat → State → Out
  | 0, s => .next s
  | n + 1, s =>
    match s.monitor with
    | none => .next s
    | some m =>
      match monitorSegment m s with
      | .next s' => runMonitor n s'
      | .fault f => .fault f
      | .refused r => .refused r

/-- The handler in progress goes on; where there is none, nothing happens. -/
def proceedMonitor (s : State) : Out :=
  match s.monitor with
  | none => .next s
  | some _ => runMonitor (s.slice + 1) s.takeSlice

/-! ## Inputs -/

/-- The next input, and the state without it. -/
def State.fetch (s : State) : Option (Input × State) :=
  match s.inbox with
  | [] => none
  | i :: rest => some (i, { s with inbox := rest })

/-- Nothing is placed at the input ports: what is in progress goes on, the handler first, then the invocation that has
waited longest (log entry 3); with nothing in progress the block is idle (R181, R251). -/
def goOn (s : State) : Out :=
  match s.monitor with
  | some _ => proceedMonitor s
  | none =>
    match s.pool with
    | [] => .next s
    | _ :: _ => proceedTask 0 s

/-- An encoded object that names no operation: a command word is `Refused` and changes no state (R86, R234); a setup
packet that is no frame of the block has no meaning. -/
def unknownObject (e : DecodeError) (s : State) : Out :=
  match e with
  | .unknownOp => .next (s.respond none .refused)
  | .unknownFrame => .refused .unknownFrame

/-- A notification needs an outstanding subscription to be delivered at all (R65): `withFetchWord` places one with the
notification it places. -/
def State.armFor (s : State) (e : Encoded) : State :=
  match e, s.port with
  | .notify4 _, some p => s.setPort { p with subArmed := true }
  | _, _ => s

end Sys2Proof.Machine
end

