-- ==== Sys2Proof/Machine/Break.lean ====
section
/-!
DEFINITION. Break signalling (44_break.md R190 to R193).
-/

namespace Sys2Proof.Machine

/-- SET_BREAK(active), R190: the pair is read fresh from the device, one bit of each byte is changed, and the pair is
written back. The port's state is neither read nor written (R191). -/
def execSetBreak (active : Bool) (s : State) : Out :=
  invoke (.setBreak active) s fun s => .go (.send (breakReadFrame s.cfg) (.breakRead active)) s

end Sys2Proof.Machine
end

