-- ==== Sys2Proof/Machine/Codec.lean ====
section
/-!
DEFINITION. The five codec operations (40_register_codec.md R100 to R106): each issues one control frame, waits for
its completion and returns. None checks the phase, none touches the port's state (R102).
-/

namespace Sys2Proof.Machine

/-- WRITE_REGISTER(selector, value), R100. -/
def execWriteReg (selector value : U16) (s : State) : Out :=
  invoke (.writeReg selector value) s fun s => .go (.send (writeRegFrame selector value) .ret) s

/-- READ_REGISTER(selector, len), R101: a length outside 1 to 65535 is `Refused`. -/
def execReadReg (selector : U16) (len : Nat) (s : State) : Out :=
  if 1 ≤ len ∧ len ≤ 65535 then
    invoke (.readReg selector len) s fun s => .go (.send (readRegFrame selector len) .retBytes) s
  else .next (s.respond (some (.readReg selector len)) .refused)

/-- READ_VERSION(), R104. The version note is not state and is left out (R250). -/
def execReadVersion (s : State) : Out :=
  invoke .readVersion s fun s => .go (.send readVersionFrame .retBytes) s

/-- SERIAL_INIT(), R105. -/
def execSerialInit (s : State) : Out :=
  invoke .serialInit s fun s => .go (.send serialInitFrame .ret) s

/-- MODEM_CTRL(ctl), R106. -/
def execModemCtrl (ctl : Byte) (s : State) : Out :=
  invoke (.modemCtrl ctl) s fun s => .go (.send (modemCtrlFrame ctl) .ret) s

end Sys2Proof.Machine
end

