-- ==== Sys2Proof/Machine/Line.lean ====
section
/-!
DEFINITION. SYNTHESIZE and PROGRAM_LINE (41_baud_synth.md R129, R132).
-/

namespace Sys2Proof.Machine

/-- SYNTHESIZE(baud), R129: a pure function of the rate; no state, no port but RES. -/
def execSynthesize (baud : U32) (s : State) : Out :=
  invoke (.synthesize baud) s fun s =>
    match synthesizeRate baud with
    | .ok (plan, payload) => .ret (.ok (.plan plan payload)) s
    | .error e => raise e s

/-- PROGRAM_LINE(baud, frame), R132. The frame byte is sent as given. -/
def execProgramLine (baud : U32) (frame : Byte) (s : State) : Out :=
  invoke (.programLine baud frame) s fun s => lineStart .direct baud frame s

end Sys2Proof.Machine
end

