-- ==== Sys2Proof/Machine/Lines.lean ====
section
/-!
DEFINITION. Modem-line control (42_modem_lines.md R150 to R156).
-/

namespace Sys2Proof.Machine

/-- SET_LINES(set_mask, clear_mask), R150: the field is changed in one atomic block, then the byte computed there is
pushed, whether or not it changed; a failed push rolls nothing back. -/
def execSetLines (setMask clearMask : Byte) (s : State) : Out :=
  invoke (.setLines setMask clearMask) s fun s => withPort s fun p =>
    let c := combineLines s.cfg p.ls.modemControl setMask clearMask
    .go (.send (modemCtrlFrame c) .ret) (s.setPort (p.setControl c))

/-- GET_LINES(), R151: both fields are read in one atomic block; no frame is sent. -/
def execGetLines (s : State) : Out :=
  invoke .getLines s fun s => withPort s fun p =>
    .ret (.ok (.lines (lineRecord s.cfg p.ls.modemControl p.ls.modemStatus))) s

/-- RAISE_LINES(on), R152. -/
def execRaiseLines (on : Bool) (s : State) : Out :=
  invoke (.raiseLines on) s fun s => withPort s fun p =>
    let c := raisedLines s.cfg p.ls.modemControl on
    .go (.send (modemCtrlFrame c) .ret) (s.setPort (p.setControl c))

/-- CARRIER_PRESENT(), R153. -/
def execCarrierPresent (s : State) : Out :=
  invoke .carrierPresent s fun s => withPort s fun p => .ret (.ok (.flag (carrierBit p.ls.modemStatus))) s

/-- STATUS_QUERY(), R154. -/
def execStatusQuery (s : State) : Out :=
  invokeOnPort .statusQuery s fun _ s => .go (.send (statusFrame s.cfg) (.query .direct)) s

end Sys2Proof.Machine
end

