-- ==== Sys2Proof/Machine/Monitor.lean ====
section
/-!
DEFINITION. The status monitor's operations (43_status_monitor.md R170 to R182).
-/

namespace Sys2Proof.Machine

/-- NOTIFY(bytes), R170: the delivery and the handler. Without an outstanding subscription, or while a notification is
being handled, nothing is delivered and the block sees nothing (R65, R180, R237; log entry 7). -/
def execNotify (d : Delivery) (s : State) : Out :=
  match s.deliverable, s.port with
  | true, some p => runMonitor s.slice (s.takeSlice.deliver p d)
  | _, _ => .next s

/-- SUBSCRIBE(), R178. -/
def execSubscribe (s : State) : Out :=
  invokeOnPort .subscribe s fun p s =>
    let r := s.subscribe p
    .ret (grantResult r.1) r.2

/-- UNSUBSCRIBE(), R179. -/
def execUnsubscribe (s : State) : Out :=
  invokeOnPort .unsubscribe s fun p s => .ret (.ok .unit) (s.unsubscribe p)

end Sys2Proof.Machine
end

