-- ==== Sys2Proof/Machine/Orchestrator.lean ====
section
/-!
DEFINITION. The lifecycle operations (45_orchestrator.md R202 to R210). What follows their first transfer is in
Machine/Advance.lean.
-/

namespace Sys2Proof.Machine

/-- CLAIM(), R202: the port's state is created with the values of R36. Nothing is sent. -/
def execClaim (s : State) : Out :=
  invoke .claim s fun s => .ret (.ok .unit) ((s.setPort (Port.atClaim s.cfg)).setPhase .unconfigured)

/-- OPEN(), R203: CONFIGURE, then ACTIVATE. -/
def execOpenPort (s : State) : Out :=
  invoke .openPort s fun s => .go (.send readVersionFrame (.version .openPort)) (s.setPhase .probing)

/-- RECONFIGURE(new_baud, new_frame), R206. -/
def execReconfigure (baud : U32) (frame : Byte) (s : State) : Out :=
  invoke (.reconfigure baud frame) s fun s => reconfigureEntry baud frame s

/-- SET_BAUD_RATE(b), R207: RECONFIGURE with the stored frame format. -/
def execSetBaudRate (baud : U32) (s : State) : Out :=
  invoke (.setBaudRate baud) s fun s => withPort s fun p => .go (.reconfigure baud p.ls.frameFormat) s

/-- SET_FRAME_FORMAT(f), R208: RECONFIGURE with the stored rate. -/
def execSetFrameFormat (frame : Byte) (s : State) : Out :=
  invoke (.setFrameFormat frame) s fun s => withPort s fun p => .go (.reconfigure p.ls.baudRate frame) s

/-- RESUME(), R209: the old subscription is dropped, then CONFIGURE whatever the earlier phase. -/
def execResume (s : State) : Out :=
  invoke .resume s fun s => withPort s fun p =>
    .go (.send readVersionFrame (.version (.resume (s.phase == .active)))) ((s.unsubscribe p).setPhase .probing)

/-- RELEASE(), R210: re-arming is forbidden and the subscription cancelled in one step; the state is discarded once no
notification is being handled. -/
def execRelease (s : State) : Out :=
  invoke .release s fun s => withPort s fun p => .go .releaseWait (s.unsubscribe p)

end Sys2Proof.Machine
end

