-- ==== Sys2Proof/Machine/Dispatch.lean ====
section
/-! DEFINITION. One arm per operation, each one call of its meaning. -/

namespace Sys2Proof.Machine

def exec (i : Instr) (s : State) : Host.Outcome State Fault Refusal :=
  match i with
  | .writeReg selector value => Sys2Proof.Machine.execWriteReg selector value s
  | .readReg selector len => Sys2Proof.Machine.execReadReg selector len s
  | .readVersion => Sys2Proof.Machine.execReadVersion s
  | .serialInit => Sys2Proof.Machine.execSerialInit s
  | .modemCtrl ctl => Sys2Proof.Machine.execModemCtrl ctl s
  | .notify d => Sys2Proof.Machine.execNotify d s
  | .claim => Sys2Proof.Machine.execClaim s
  | .openPort => Sys2Proof.Machine.execOpenPort s
  | .reconfigure baud frame => Sys2Proof.Machine.execReconfigure baud frame s
  | .setBaudRate baud => Sys2Proof.Machine.execSetBaudRate baud s
  | .setFrameFormat frame => Sys2Proof.Machine.execSetFrameFormat frame s
  | .resume => Sys2Proof.Machine.execResume s
  | .release => Sys2Proof.Machine.execRelease s
  | .setLines setMask clearMask => Sys2Proof.Machine.execSetLines setMask clearMask s
  | .getLines => Sys2Proof.Machine.execGetLines s
  | .raiseLines on => Sys2Proof.Machine.execRaiseLines on s
  | .carrierPresent => Sys2Proof.Machine.execCarrierPresent s
  | .setBreak active => Sys2Proof.Machine.execSetBreak active s
  | .synthesize baud => Sys2Proof.Machine.execSynthesize baud s
  | .programLine baud frame => Sys2Proof.Machine.execProgramLine baud frame s
  | .statusQuery => Sys2Proof.Machine.execStatusQuery s
  | .subscribe => Sys2Proof.Machine.execSubscribe s
  | .unsubscribe => Sys2Proof.Machine.execUnsubscribe s

end Sys2Proof.Machine
end

