-- ==== Sys2Proof/Machine/Step.lean ====
section
/-!
DEFINITION. One step of the machine: the next thing that happens at the input ports, or the next move of an agent in
progress.
-/

namespace Sys2Proof.Machine

/-- One step. An operation named at an input port is decoded and executed; an agent in progress goes on; with nothing
placed, what is in progress goes on by itself. -/
def step (s : State) : Host.Outcome State Fault Refusal :=
  match s.fetch with
  | none => goOn s
  | some (.call e, s') =>
    match decode e with
    | .ok i => exec i s'
    | .error r => unknownObject r s'
  | some (.proceed k, s') => proceedTask k s'
  | some (.proceedMonitor, s') => proceedMonitor s'

/-- The state in which the next step runs the operation that a row of spec/opcode_table.json with `nbits` bits writes
as the number `w`: its encoded object is placed first at the input ports, and with a notification the outstanding
subscription that its delivery needs (R65). -/
def State.withFetchWord (s : State) (nbits w : Nat) : State :=
  match encodedOfWord nbits w with
  | none => s
  | some e => { s.armFor e with inbox := .call e :: s.inbox }

end Sys2Proof.Machine
end

