-- ==== Sys2Proof/Safety.lean ====
section
/-!
DEFINITION. What counts as a state the block may be in and as an undisturbed run, in the terms the statements use.
-/

namespace Sys2Proof.Machine

/-! ## Undisturbed runs -/

/-- No RESUME and no RELEASE is in progress, so that the host may start another operation (45_orchestrator.md R211). -/
abbrev State.OpenToHost (s : State) : Prop := ∀ t ∈ s.pool, needsQuiet t.op = false

/-- The agent that moves next takes all its segments before another moves, and no other operation's frame is on the
channel, nor is RESUME or RELEASE in progress: the plain sequential run of one operation (the programs of the spec).
Every other schedule is a state with other `slices`, `pool` and `inbox`. -/
abbrev State.Undisturbed (s : State) : Prop := s.slices = [] ∧ s.channelBusy = false ∧ s.OpenToHost

/-! ## The port's state (10_state.md R22 to R24) -/

/-- Both enable bits of `frame_format` are set (R22), `modem_control` has no bit outside `CTRL_MASK` (R23), and
`modem_status` none outside `STATUS_MASK` (R24). -/
abbrev LineState.Legal (c : Config.Params) (ls : LineState) : Prop :=
  ls.frameFormat &&& c.ffRxEn = c.ffRxEn ∧ ls.frameFormat &&& c.ffTxEn = c.ffTxEn ∧
  ls.modemControl &&& not8 (ctrlMask c) = 0 ∧ ls.modemStatus &&& not8 Config.statusMask = 0

/-! ## The phase machine (45_orchestrator.md R200) -/

/-- The transitions of R200, "these and no others". -/
def phaseEdge : Phase → Phase → Bool
  | .released, .unconfigured => true
  | .unconfigured, .probing => true
  | .active, .probing => true
  | .probing, .initialized => true
  | .probing, .unconfigured => true
  | .initialized, .active => true
  | .initialized, .unconfigured => true
  | .active, .reconfiguring => true
  | .reconfiguring, .active => true
  | .unconfigured, .released => true
  | .active, .released => true
  | _, _ => false

/-- A phase that is held only while a lifecycle operation is in progress (R200). -/
def Phase.passing : Phase → Bool
  | .probing => true
  | .initialized => true
  | .reconfiguring => true
  | .unconfigured => false
  | .active => false
  | .released => false

/-! ## Operations in progress -/

/-- The caller of PROGRAM_LINE is a lifecycle operation. -/
def LineCaller.isLife : LineCaller → Bool
  | .direct => false
  | .reconfigure _ _ => true
  | .configure _ => true

/-- The caller of STATUS_QUERY is a lifecycle operation. -/
def QueryCaller.isLife : QueryCaller → Bool
  | .direct => false
  | .openPort => true
  | .resume => true

/-- What follows the transfer belongs to a lifecycle operation. -/
def After.isLife : After → Bool
  | .ret => false
  | .retBytes => false
  | .version _ => true
  | .serialInit _ => true
  | .push _ => true
  | .firstWrite _ k => k.isLife
  | .secondWrite k => k.isLife
  | .query k => k.isLife
  | .breakRead _ => false

/-- The position belongs to a lifecycle operation. -/
def Pos.isLife : Pos → Bool
  | .send _ k => k.isLife
  | .await _ k => k.isLife
  | .answered _ _ k => k.isLife
  | .reconfigure _ _ => true
  | .swapBaud _ _ => true
  | .rollback _ _ => true
  | .reportLost => true
  | .finish _ _ => true
  | .releaseWait => true

/-- The phase in which PROGRAM_LINE runs for a lifecycle operation. -/
def LineCaller.fits (p : Phase) : LineCaller → Bool
  | .direct => true
  | .reconfigure _ _ => p == .reconfiguring
  | .configure _ => p == .initialized

/-- The phase in which STATUS_QUERY runs for a lifecycle operation. -/
def QueryCaller.fits (p : Phase) : QueryCaller → Bool
  | .direct => true
  | .openPort => p == .initialized
  | .resume => p == .initialized

/-- The phase in which a lifecycle operation waits for a transfer with this continuation. -/
def After.fits (p : Phase) : After → Bool
  | .ret => true
  | .retBytes => true
  | .version _ => p == .probing
  | .serialInit _ => p == .initialized
  | .push _ => p == .initialized
  | .firstWrite _ k => k.fits p
  | .secondWrite k => k.fits p
  | .query k => k.fits p
  | .breakRead _ => true

/-- The phase from which a lifecycle operation makes its last change, to the phase `q` (R200). -/
def Phase.endsIn (p q : Phase) : Bool :=
  (p == .initialized && (q == .active || q == .unconfigured)) || (p == .reconfiguring && q == .active)

/-- The phase in which a lifecycle operation stands at this position. -/
def Pos.fits (p : Phase) : Pos → Bool
  | .send _ k => k.fits p
  | .await _ k => k.fits p
  | .answered _ _ k => k.fits p
  | .reconfigure _ _ => p == .active
  | .swapBaud _ _ => p == .reconfiguring
  | .rollback _ _ => p == .reconfiguring
  | .reportLost => p == .initialized
  | .finish q _ => p.endsIn q
  | .releaseWait => p == .active || p == .unconfigured

/-- A frame-format byte has both enable bits (R22). -/
def bothEnabled (c : Config.Params) (f : Byte) : Bool := f &&& c.ffRxEn == c.ffRxEn && f &&& c.ffTxEn == c.ffTxEn

/-- The frame byte RECONFIGURE will store has both enable bits. -/
def LineCaller.enabled (c : Config.Params) : LineCaller → Bool
  | .direct => true
  | .reconfigure _ f => bothEnabled c f
  | .configure _ => true

/-- The same, for what follows a transfer. -/
def After.enabled (c : Config.Params) : After → Bool
  | .ret => true
  | .retBytes => true
  | .version _ => true
  | .serialInit _ => true
  | .push _ => true
  | .firstWrite _ k => k.enabled c
  | .secondWrite k => k.enabled c
  | .query _ => true
  | .breakRead _ => true

/-- The same, for a position. -/
def Pos.enabled (c : Config.Params) : Pos → Bool
  | .send _ k => k.enabled c
  | .await _ k => k.enabled c
  | .answered _ _ k => k.enabled c
  | .reconfigure _ _ => true
  | .swapBaud _ f => bothEnabled c f
  | .rollback _ _ => true
  | .reportLost => true
  | .finish _ _ => true
  | .releaseWait => true

/-- The invocation's frame is on the channel. -/
def Pos.onChannel : Pos → Bool
  | .send _ _ => false
  | .await _ _ => true
  | .answered _ _ _ => false
  | .reconfigure _ _ => false
  | .swapBaud _ _ => false
  | .rollback _ _ => false
  | .reportLost => false
  | .finish _ _ => false
  | .releaseWait => false

/-- What follows the transfer stores a status for a STATUS_QUERY of the host's own. -/
def After.storesStatus : After → Bool
  | .ret => false
  | .retBytes => false
  | .version _ => false
  | .serialInit _ => false
  | .push _ => false
  | .firstWrite _ _ => false
  | .secondWrite _ => false
  | .query k => !k.isLife
  | .breakRead _ => false

/-- The position is that of a STATUS_QUERY of the host's own, which will store the status it reads. -/
def Pos.storesStatus : Pos → Bool
  | .send _ k => k.storesStatus
  | .await _ k => k.storesStatus
  | .answered _ _ k => k.storesStatus
  | .reconfigure _ _ => false
  | .swapBaud _ _ => false
  | .rollback _ _ => false
  | .reportLost => false
  | .finish _ _ => false
  | .releaseWait => false

/-- The reply that the invocation has holds no more bytes than were asked for (20_memory.md R64). -/
def Pos.replyFits : Pos → Bool
  | .send _ _ => true
  | .await _ _ => true
  | .answered f (.ok bytes) _ => decide (bytes.length ≤ f.length.toNat)
  | .answered _ .fail _ => true
  | .reconfigure _ _ => true
  | .swapBaud _ _ => true
  | .rollback _ _ => true
  | .reportLost => true
  | .finish _ _ => true
  | .releaseWait => true

/-! ## The invariant -/

/-- What holds in every state the block comes to from CLAIM, or from before it, under the host's duty. -/
structure State.Inv (s : State) : Prop where
  /-- The parameters meet R6's constraints. -/
  params : s.cfg.Ok
  /-- The port's state exists exactly outside `Released` (R20, R36). -/
  exists_iff : s.port = none ↔ s.phase = .released
  /-- The bits of LineState that the spec says are always 0 or always set (R22 to R24). -/
  legal : ∀ p, s.port = some p → p.ls.Legal s.cfg
  /-- A notification is handled only while the port exists (R210). -/
  handled : s.monitor ≠ none → s.port ≠ none
  /-- An invocation stands at a position of its own operation's kind. -/
  kinds : ∀ t ∈ s.pool, isLifecycle t.op = t.pos.isLife
  /-- Lifecycle operations are in progress one at a time (R211). -/
  oneLifecycle : s.pool.countP (fun t => isLifecycle t.op) ≤ 1
  /-- A lifecycle operation in progress stands where its phase says, and its port exists. -/
  fits : ∀ t ∈ s.pool, t.pos.isLife = true → t.pos.fits s.phase = true ∧ s.port ≠ none
  /-- `Probing`, `Initialized` and `Reconfiguring` are held only while an operation is in progress (R200). -/
  passing : s.phase.passing = true → ∃ t ∈ s.pool, t.pos.isLife = true
  /-- The channel carries one transfer at a time (20_memory.md R64). -/
  oneTransfer : s.pool.countP (fun t => t.pos.onChannel) ≤ 1
  /-- The byte RECONFIGURE will store has both enable bits (R206). -/
  enabled : ∀ t ∈ s.pool, t.pos.enabled s.cfg = true
  /-- RESUME and RELEASE run with no other operation of the command agent (R211). -/
  alone : ∀ t ∈ s.pool, needsQuiet t.op = true → s.pool = [t]
  /-- Only RELEASE waits for the handler (R210). -/
  releasing : ∀ t ∈ s.pool, t.pos = .releaseWait → t.op = .release
  /-- No STATUS_QUERY of the host's outlives the port (R211, 70_reset_and_hazards.md R275). -/
  noLateQuery : s.port = none → ∀ t ∈ s.pool, t.pos.storesStatus = false
  /-- The channel returns no more bytes than were asked for (20_memory.md R64). -/
  replies : ∀ t ∈ s.pool, t.pos.replyFits = true

/-- The state a segment leaves, unless it faults. -/
def Seg.state : Seg → Option State
  | .go _ s => some s
  | .ret _ s => some s
  | .blocked _ s => some s
  | .fault _ => none

/-! ## What transfers and submissions come to -/

/-- The result of an operation that ends with an `OUT` transfer (40_register_codec.md R103). -/
def Answer.outResult : Answer → Result
  | .ok _ => .ok .unit
  | .fail => .err .transferFailure

/-- The result of an operation that ends with an `IN` transfer of `n` bytes and returns them (R103); the channel
delivers at most the `n` bytes asked for (20_memory.md R64). -/
def Answer.inResult (n : Nat) : Answer → Result
  | .ok bytes => if n ≤ bytes.length then .ok (.bytes (bytes.take n)) else .err .deviceProtocolError
  | .fail => .err .transferFailure

/-- A frame's transfer succeeds with this answer. -/
def Frame.succeeds (f : Frame) (a : Answer) : Bool :=
  match f.outcome a with
  | .ok _ => true
  | .error _ => false

/-- The transfers of these frames, one after another, all succeed with these answers. -/
def succeedAll : List Frame → List Answer → Bool
  | [], [] => true
  | [], _ :: _ => false
  | _ :: _, [] => false
  | f :: fs, a :: as => f.succeeds a && succeedAll fs as

/-- The five frames of CONFIGURE (45_orchestrator.md R204), in their order. -/
def bringUpFrames (payload : U16) (format control : Byte) : List Frame :=
  [⟨.toHost, 0x5F, 0, 0, 2⟩, ⟨.toDevice, 0xA1, 0, 0, 0⟩, ⟨.toDevice, 0x9A, payload, 0x1312, 0⟩,
   ⟨.toDevice, 0x9A, zext16 format, 0x2518, 0⟩, ⟨.toDevice, 0xA4, zext16 (not8 control), 0, 0⟩]

/-- The answer the next `Submit` gets: the first one listed, else the free value (log entry 6). -/
def State.grant (s : State) : Bool := s.grants.headD (Config.freeGrant s.asked)

/-- The record of answers to `Submit`s, after one more. -/
def State.afterSubmit (s : State) : State :=
  { s with grants := s.grants.tail, asked := if s.grants.isEmpty then s.asked + 1 else s.asked }

/-- What UNSUBSCRIBE puts on the SUB port (43_status_monitor.md R179). -/
def Port.cancelEvents (p : Port) : List PortEvent := if p.subArmed then [.cancel] else []

/-- The port's state after UNSUBSCRIBE (R179). -/
def Port.disarmed (p : Port) : Port := { p with stopRearm := true, subArmed := false }

/-- The port's state after a successful SUBSCRIBE with nothing outstanding (R178). -/
def Port.armed (p : Port) : Port := { p with subArmed := true, stopRearm := false, monitorLost := false }

/-- One if the bit is set, else nothing. -/
def bitCount (delta mask : Byte) : Nat := if delta &&& mask = 0 then 0 else 1

/-! ## Sequences of notifications -/

/-- Notifications handled one after another. -/
def notifyAll : List Delivery → State → Out
  | [], s => .next s
  | d :: ds, s =>
    match exec (.notify d) s with
    | .next s' => notifyAll ds s'
    | .fault f => .fault f
    | .refused r => .refused r

/-- The status a delivery carries (30_encoding.md R81), if it is one that is processed (43_status_monitor.md R171,
R182). -/
def deliveredStatus : Delivery → Option Byte
  | .record (_ :: _ :: inv :: _ :: _) => some (not8 inv &&& 0x0F)
  | .record _ => none
  | .failed => none

/-- The status after a sequence of notifications that began with `old`: that of the latest one of at least 4 bytes
(R173). -/
def latestStatus : Byte → List Delivery → Byte
  | old, [] => old
  | old, d :: ds => latestStatus ((deliveredStatus d).getD old) ds

/-- How often a status bit changed over a sequence of notifications that began with `old` (R173). -/
def changesOf (mask : Byte) : Byte → List Delivery → Nat
  | _, [] => 0
  | old, d :: ds => bitCount ((deliveredStatus d).getD old ^^^ old) mask + changesOf mask ((deliveredStatus d).getD old) ds

end Sys2Proof.Machine
end

