-- ==== Sys2Proof/Certificates/Slice0/Obligations.lean ====
section
/-!
DEFINITION. The statements for the provers. A statement of what an operation does gives its whole next state as the
state before it with the fields it writes, so that it is the operation's frame as well. Where one asks for
`s.Undisturbed`, it is about the schedule in which the agent that moves takes all its segments (log entry 3); where one
asks for `s.OpenToHost`, which is part of it, about an operation that the host's duty lets it start (log entry 9). The
order of the events in `out` is the model's record of what the block puts on its ports (log entry 10).
-/

open Sys2Proof Sys2Proof.Machine

/-! ## Encodings -/

/-- Every operation that has an encoding is read back from it, with every operand (30_encoding.md sections 1 to 3).
The layout of a setup packet is that of log entry 5. -/
def Obligations.DecodeEncodeAgree : Prop :=
  ∀ i : Instr, i.wellFormed = true → decode (encode i) = .ok i

/-- An encoded object that names an operation is that operation's encoding: a notification exactly, a command word with
every bit of `arg` that R84 gives the operation, and 0 in the others (30_encoding.md R84, R90), and a setup packet
exactly, in the byte layout of log entry 5. -/
def Obligations.EncodeDecodeAgree : Prop :=
  (∀ (p : SetupPacket) (i : Instr), decode (.setup8 p) = .ok i → encode i = .setup8 p) ∧
  (∀ (c : CommandWord) (i : Instr), decode (.cmd48 c) = .ok i →
    encode i = .cmd48 { op := c.op, arg := c.arg &&& usedBits c.op }) ∧
  (∀ (d : Delivery), decode (.notify4 d) = .ok (.notify d) ∧ encode (.notify d) = .notify4 d)

/-- The decoder reads a few words written out from the tables of the spec (95_test_vectors.md 2.1 and 2.11). -/
def Obligations.SampleWordsDecode : Prop :=
  decodeTableWord 64 0x409A82B212130000 = some (.writeReg 0x1312 0xB282) ∧
  decodeTableWord 64 0xC095051800000200 = some (.readReg 0x1805 2) ∧
  decodeTableWord 64 0x40A49F0000000000 = some (.modemCtrl 0x60) ∧
  decodeTableWord 48 0x03000E1000DB = some (.reconfigure 921600 0xDB) ∧
  decodeTableWord 48 0x080000004020 = some (.setLines 0x20 0x40) ∧
  decodeTableWord 48 0x8100002580C3 = some (.programLine 9600 0xC3) ∧
  decodeTableWord 32 0x0800F7EE = some (.notify (.record [0x08, 0x00, 0xF7, 0xEE]))

/-- The five frames as setup packets, and the frame that carries the frame-format byte (30_encoding.md sections 1 and
2), in the byte layout of log entry 5. Where the document names no field, the spec decides which it is and that the
others are 0 (92_eei_decisions.md D4 to D8). -/
def Obligations.FramesOnTheWire : Prop :=
  (∀ sel v : U16, (writeRegFrame sel v).packet = ⟨0x40, 0x9A, lo8 v, hi8 v, lo8 sel, hi8 sel, 0, 0⟩) ∧
  (∀ (sel : U16) (n : Nat), (readRegFrame sel n).packet =
    ⟨0xC0, 0x95, lo8 sel, hi8 sel, 0, 0, lo8 (BitVec.ofNat 16 n), hi8 (BitVec.ofNat 16 n)⟩) ∧
  readVersionFrame.packet = ⟨0xC0, 0x5F, 0, 0, 0, 0, 2, 0⟩ ∧
  serialInitFrame.packet = ⟨0x40, 0xA1, 0, 0, 0, 0, 0, 0⟩ ∧
  (∀ ctl : Byte, (modemCtrlFrame ctl).packet = ⟨0x40, 0xA4, ~~~ctl, 0, 0, 0, 0, 0⟩) ∧
  (∀ f : Byte, (formatFrame f).packet = ⟨0x40, 0x9A, f, 0, 0x18, 0x25, 0, 0⟩)

/-- R7: the two derived constants, for every value of the parameters. -/
def Obligations.DerivedConstants : Prop :=
  ∀ c : Config.Params,
    selBreak c = (c.lcrReg.zeroExtend 16 <<< 8) ||| c.breakReg.zeroExtend 16 ∧ ctrlMask c = c.rtsBit ||| c.dtrBit

/-! ## The step -/

/-- Where the next thing at the input ports is an encoded object that names an operation, the step executes that
operation, with the object gone from the input ports; nothing else is added around it. -/
def Obligations.StepRunsDecoded : Prop :=
  ∀ (s : State) (e : Encoded) (rest : List Input) (i : Instr),
    s.inbox = .call e :: rest → decode e = .ok i → i.wellFormed = true → step s = exec i { s with inbox := rest }

/-- `Refused` (60_exceptions.md R234, which is the spec's decision D23): an operation in a phase where it is not
legal, a command word that names no operation, and a READ_REGISTER whose length is out of range end with `Refused` and
nothing else happens. -/
def Obligations.RefusedChangesNothing : Prop :=
  ∀ s : State,
    (∀ i : Instr,
      (i = .claim ∧ s.phase ≠ .released) ∨ (i = .openPort ∧ s.phase ≠ .unconfigured) ∨
      (((∃ b f, i = .reconfigure b f) ∨ (∃ b, i = .setBaudRate b) ∨ (∃ f, i = .setFrameFormat f)) ∧
        s.phase ≠ .active) ∨
      ((i = .resume ∨ i = .release) ∧ s.phase ≠ .unconfigured ∧ s.phase ≠ .active) ∨
      (((∃ a b, i = .setLines a b) ∨ (∃ on, i = .raiseLines on) ∨ (∃ on, i = .setBreak on)) ∧
        s.phase ≠ .active ∧ s.phase ≠ .reconfiguring) ∨
      ((i = .getLines ∨ i = .carrierPresent) ∧ s.phase = .released) ∨
      (∃ sel len, i = .readReg sel len ∧ (len = 0 ∨ 65535 < len)) →
      exec i s = .next { s with out := s.out ++ [.result (some i) .refused] }) ∧
    (∀ (c : CommandWord) (rest : List Input),
      c.op ∉ [0x01, 0x02, 0x03, 0x04, 0x05, 0x06, 0x07, 0x08, 0x09, 0x0A, 0x0B, 0x0C,
              0x80, 0x81, 0x82, 0x83, 0x84] →
      s.inbox = .call (.cmd48 c) :: rest →
      step s = .next { s with inbox := rest, out := s.out ++ [.result none .refused] })

/-- The model's choice (log entry 8): the operations whose callers check the phase and which use the port's state are
`Refused` where no port exists. -/
def Obligations.NoPortIsRefused : Prop :=
  ∀ (s : State) (i : Instr), s.port = none → i = .statusQuery ∨ i = .subscribe ∨ i = .unsubscribe →
    exec i s = .next { s with out := s.out ++ [.result (some i) .refused] }

/-- The model's choice (log entry 9): `exec` refuses exactly the operations, not answered `Refused` before, that the
host starts against its duty of R211: a lifecycle operation while another is in progress, RESUME or RELEASE while
anything is, and anything but a notification while RESUME or RELEASE is. -/
def Obligations.OnlyBrokenDutyIsRefused : Prop :=
  ∀ (i : Instr) (s : State) (r : Refusal),
    exec i s = .refused r ↔
      r = .hostDuty ∧ legal i s.phase = true ∧
      (∀ d, i ≠ .notify d) ∧ (∀ sel len, i = .readReg sel len → 1 ≤ len ∧ len ≤ 65535) ∧
      (i = .statusQuery ∨ i = .subscribe ∨ i = .unsubscribe → s.port ≠ none) ∧
      ((isLifecycle i = true ∧ ∃ t ∈ s.pool, isLifecycle t.op = true) ∨
        ((i = .resume ∨ i = .release) ∧ s.pool ≠ []) ∨
        ∃ t ∈ s.pool, t.op = .resume ∨ t.op = .release)

/-! ## The register codec -/

/-- WRITE_REGISTER, SERIAL_INIT and MODEM_CTRL (40_register_codec.md sections 2, 5 and 6), in every phase: one frame,
and the transfer's outcome. The value of MODEM_CTRL is the complement of the byte, with zeros in the high half; that,
and the zeros in the fields the document does not name, are the spec's decisions D6 and D7. -/
def Obligations.OutOperationsComplete : Prop :=
  ∀ (selector value : U16) (ctl : Byte) (s : State) (a : Answer) (rest : List Answer),
    s.Undisturbed → s.answers = a :: rest →
    let done (i : Instr) (f : Frame) : State :=
      { s with answers := rest, out := s.out ++ [.sent f, .result (some i) a.outResult] }
    exec (.writeReg selector value) s =
      .next (done (.writeReg selector value) ⟨.toDevice, 0x9A, value, selector, 0⟩) ∧
    exec .serialInit s = .next (done .serialInit ⟨.toDevice, 0xA1, 0, 0, 0⟩) ∧
    exec (.modemCtrl ctl) s = .next (done (.modemCtrl ctl) ⟨.toDevice, 0xA4, (~~~ctl).zeroExtend 16, 0, 0⟩)

/-- READ_REGISTER and READ_VERSION (40_register_codec.md sections 3 and 4), in every phase and for every length
READ_REGISTER admits: one frame, and exactly the bytes asked for or an error. The selector's field, the zeros in the
others and the range of lengths are the spec's decisions D4 and D5. -/
def Obligations.InOperationsComplete : Prop :=
  ∀ (selector : U16) (len : Nat) (s : State) (a : Answer) (rest : List Answer),
    1 ≤ len → len ≤ 65535 → s.Undisturbed → s.answers = a :: rest →
    let done (i : Instr) (f : Frame) (n : Nat) : State :=
      { s with answers := rest, out := s.out ++ [.sent f, .result (some i) (a.inResult n)] }
    exec (.readReg selector len) s =
      .next (done (.readReg selector len) ⟨.toHost, 0x95, selector, 0, BitVec.ofNat 16 len⟩ len) ∧
    exec .readVersion s = .next (done .readVersion ⟨.toHost, 0x5F, 0, 0, 2⟩ 2)

/-- Any transfer, of any operation (20_memory.md R64): it waits while another frame is on the channel; once free, its
frame is sent and it waits for its own completion; with one listed it goes on, an `IN` reply cut to the length asked
for. What goes on, and how far, is the schedule's choice (log entries 3 and 4); that a transfer with no answer listed
waits is the model's (log entries 6 and 20). The last three clauses follow MODEM_CTRL from its start to its result. -/
def Obligations.TransferWaits : Prop :=
  (∀ (s : State) (op : Instr) (f : Frame) (k : After) (j : Nat) (more : List Input),
    s.inbox = .proceed j :: more →
    let moved (pos : Pos) : State :=
      { s with inbox := more, slices := s.slices.tail, pool := s.pool.eraseIdx j ++ [⟨op, pos⟩] }
    (s.pool[j]? = some ⟨op, .send f k⟩ → s.channelBusy = true → step s = .next (moved (.send f k))) ∧
    (s.pool[j]? = some ⟨op, .send f k⟩ → s.channelBusy = false → s.answers = [] ∨ s.slices.head? = some 0 →
      step s = .next { moved (.await f k) with out := s.out ++ [.sent f] }) ∧
    (s.pool[j]? = some ⟨op, .await f k⟩ → s.answers = [] → step s = .next (moved (.await f k))) ∧
    (∀ (a : Answer) (rest : List Answer), s.pool[j]? = some ⟨op, .await f k⟩ → s.answers = a :: rest →
      s.slices.head? = some 0 →
      step s = .next { moved (.answered f (f.reply a) k) with answers := rest })) ∧
  (∀ (f : Frame) (a : Answer) (bytes : List Byte), f.reply a = .ok bytes → bytes.length ≤ f.length.toNat) ∧
  ∀ (ctl : Byte) (s : State), s.slices = [] →
    (s.channelBusy = true → s.OpenToHost → exec (.modemCtrl ctl) s = .next { s with
      pool := s.pool ++ [⟨.modemCtrl ctl, .send (modemCtrlFrame ctl) .ret⟩] }) ∧
    (s.channelBusy = false → s.OpenToHost → s.answers = [] → exec (.modemCtrl ctl) s = .next { s with
      pool := s.pool ++ [⟨.modemCtrl ctl, .await (modemCtrlFrame ctl) .ret⟩]
      out := s.out ++ [.sent (modemCtrlFrame ctl)] }) ∧
    (∀ (a : Answer) (rest : List Answer) (more : List Input),
      s.inbox = .proceed 0 :: more → s.pool = [⟨.modemCtrl ctl, .await (modemCtrlFrame ctl) .ret⟩] →
      s.answers = a :: rest →
      step s = .next { s with
        inbox := more, pool := [], answers := rest
        out := s.out ++ [.result (some (.modemCtrl ctl)) a.outResult] })

/-- The codec operations, SYNTHESIZE, PROGRAM_LINE, SET_BREAK, GET_LINES and CARRIER_PRESENT write no state of the
block (40_register_codec.md section 1, 44_break.md, 41_baud_synth.md section 3), under every schedule: not when they
are invoked, and not when they go on. -/
def Obligations.ReadersTouchNoState : Prop :=
  (∀ (i : Instr) (s t : State),
    ((∃ a b, i = .writeReg a b) ∨ (∃ a n, i = .readReg a n) ∨ i = .readVersion ∨ i = .serialInit ∨
      (∃ c, i = .modemCtrl c) ∨ (∃ on, i = .setBreak on) ∨ (∃ b, i = .synthesize b) ∨ (∃ b f, i = .programLine b f) ∨
      i = .getLines ∨ i = .carrierPresent) →
    exec i s = .next t →
    t.cfg = s.cfg ∧ t.phase = s.phase ∧ t.port = s.port ∧ t.monitor = s.monitor ∧ t.inbox = s.inbox ∧
      t.grants = s.grants ∧ t.asked = s.asked) ∧
  (∀ (pos : Pos) (s t : State), pos.isLife = false → pos.storesStatus = false → (advance pos s).state = some t →
    t.cfg = s.cfg ∧ t.phase = s.phase ∧ t.port = s.port ∧ t.pool = s.pool ∧ t.monitor = s.monitor ∧
      t.inbox = s.inbox ∧ t.grants = s.grants ∧ t.asked = s.asked ∧ t.slices = s.slices)

/-! ## The synthesizer -/

/-- Rounding division (41_baud_synth.md R120): the nearest integer, an exact half up (the spec's decision D1). -/
def Obligations.RoundingDivision : Prop :=
  ∀ a b : Nat, 1 ≤ b → 2 * b * rdiv a b ≤ 2 * a + b ∧ 2 * a + b < 2 * b * (rdiv a b + 1)

/-- R121: what the candidate search comes to, for either clock. -/
def Obligations.CandidateSearch : Prop :=
  ∀ clock baud : Nat, (clock = 6000000 ∨ clock = 12000000) → 1 ≤ baud →
    let c := candidate clock baud
    c.divisor ≤ 3 ∧ c.shift = 8 ^ (3 - c.divisor) ∧ c.factor = rdiv clock baud / c.shift ∧
    (c.factor ≤ 255 ∨ c.divisor = 0) ∧
    (c.divisor < 3 → 255 < rdiv clock baud / 8 ^ (2 - c.divisor)) ∧
    (c.factor = 0 ↔ rdiv clock baud = 0)

/-- R125: a rate of 0 is rejected, and PROGRAM_LINE sends no frame for it. -/
def Obligations.ZeroRateRejected : Prop :=
  synthesizeRate 0 = .error .invalidBaudRate ∧
  ∀ (s : State) (f : Byte), s.OpenToHost →
    exec (.synthesize 0) s = .next { s with
      slices := s.slices.tail, out := s.out ++ [.result (some (.synthesize 0)) (.err .invalidBaudRate)] } ∧
    exec (.programLine 0 f) s = .next { s with
      slices := s.slices.tail, out := s.out ++ [.result (some (.programLine 0 f)) (.err .invalidBaudRate)] }

/-- A factor of 0 (41_baud_synth.md R126, the spec's decision D2): the single-clock factor is 0 exactly above 12 MBd;
the double-clock factor is then at most 1; the rate is rejected. -/
def Obligations.FactorZeroRejected : Prop :=
  ∀ b : U32, b ≠ 0 →
    ((candidate 6000000 b.toNat).factor = 0 ↔ 12000000 < b.toNat) ∧
    ((candidate 6000000 b.toNat).factor = 0 →
      (candidate 12000000 b.toNat).factor ≤ 1 ∧ synthesizeRate b = .error .invalidBaudRate)

/-- R124: the double-clock candidate is adopted exactly when its factor is above 8 and its error strictly smaller; a
tie keeps the single-clock candidate; the plan of a successful synthesis is the adopted candidate's. -/
def Obligations.DoubleClockOnlyIfStrictlyCloser : Prop :=
  ∀ b : U32, b ≠ 0 →
    let c1 := candidate 6000000 b.toNat
    let c2 := candidate 12000000 b.toNat
    let diff1 := absDiff (rdiv 6000000 (c1.factor * c1.shift)) b.toNat
    let diff2 := absDiff (rdiv 12000000 (c2.factor * c2.shift)) b.toNat
    (chosen b.toNat = if 8 < c2.factor ∧ diff2 < diff1 then c2 else c1) ∧
    (diff1 = diff2 → chosen b.toNat = c1) ∧
    ∀ plan payload, synthesizeRate b = .ok (plan, payload) →
      (plan.useDoubleClock = true ↔ 8 < c2.factor ∧ diff2 < diff1) ∧
      plan.factor.toNat = (chosen b.toNat).factor ∧ plan.divisor.toNat = (chosen b.toNat).divisor

/-- R128: the payload of a successful synthesis, and its bit 7, which is always 1. -/
def Obligations.PayloadForm : Prop :=
  ∀ (b : U32) (plan : BaudPlan) (payload : U16), synthesizeRate b = .ok (plan, payload) →
    hi8 payload = BitVec.ofNat 8 (256 - plan.factor.toNat) ∧
    lo8 payload = 0x80 ||| (if plan.useDoubleClock then 0x04 else 0x00) ||| plan.divisor ∧
    payload.getLsbD 7 = true

/-- The rates SYNTHESIZE accepts (41_baud_synth.md section 3, R131, without its count of the rates that use the double
clock), and the ranges of what it answers (30_encoding.md section 2). They rest on the spec's decisions D1 and D3. -/
def Obligations.SynthesizeDomain : Prop :=
  ∀ b : U32,
    (46 ≤ b.toNat ∧ b.toNat ≤ 4000000 ∧ b.toNat ≠ 82 ∧ b.toNat ≠ 85 ∧ b.toNat ≠ 91 →
      ∃ plan payload, synthesizeRate b = .ok (plan, payload) ∧
        2 ≤ plan.factor.toNat ∧ plan.factor.toNat ≤ 256 ∧ plan.divisor.toNat ≤ 3 ∧
        (hi8 payload).toNat = 256 - plan.factor.toNat ∧ payload &&& 0x0078 = 0) ∧
    (¬(46 ≤ b.toNat ∧ b.toNat ≤ 4000000 ∧ b.toNat ≠ 82 ∧ b.toNat ≠ 85 ∧ b.toNat ≠ 91) →
      synthesizeRate b = .error .invalidBaudRate)

/-- SYNTHESIZE (41_baud_synth.md section 3) answers the plan and the payload, in any phase and under every schedule,
and touches no state and no other port. -/
def Obligations.SynthesizeCompletes : Prop :=
  ∀ (b : U32) (s : State), s.OpenToHost →
    (∀ plan payload, synthesizeRate b = .ok (plan, payload) →
      exec (.synthesize b) s = .next { s with
        slices := s.slices.tail
        out := s.out ++ [.result (some (.synthesize b)) (.ok (.plan plan payload))] }) ∧
    (∀ e, synthesizeRate b = .error e →
      exec (.synthesize b) s = .next { s with
        slices := s.slices.tail, out := s.out ++ [.result (some (.synthesize b)) (.err e)] })

/-- PROGRAM_LINE (41_baud_synth.md section 4): a rejected rate sends nothing; a failed first write ends it; a failed
second write is reported, with no corrective write (the spec's decision D39); the format byte is sent with zeros in
the high half (D8). -/
def Obligations.ProgramLineCompletes : Prop :=
  ∀ (b : U32) (f : Byte) (s : State), s.Undisturbed →
    let op : Option Instr := some (.programLine b f)
    (∀ e, synthesizeRate b = .error e →
      exec (.programLine b f) s = .next { s with out := s.out ++ [.result op (.err e)] }) ∧
    (∀ plan payload, synthesizeRate b = .ok (plan, payload) →
      (∀ rest, s.answers = .fail :: rest →
        exec (.programLine b f) s = .next { s with
          answers := rest
          out := s.out ++ [.sent ⟨.toDevice, 0x9A, payload, 0x1312, 0⟩, .result op (.err .transferFailure)] }) ∧
      (∀ bytes a rest, s.answers = .ok bytes :: a :: rest →
        exec (.programLine b f) s = .next { s with
          answers := rest
          out := s.out ++ [.sent ⟨.toDevice, 0x9A, payload, 0x1312, 0⟩,
            .sent ⟨.toDevice, 0x9A, f.zeroExtend 16, 0x2518, 0⟩, .result op a.outResult] }))

/-! ## Modem lines -/

/-- SET_LINES (42_modem_lines.md section 2): the OR before the AND, `CTRL_MASK` only, the push of the byte computed,
and the field kept whatever the push comes to (the spec's decisions D11 and D30). -/
def Obligations.SetLinesCompletes : Prop :=
  ∀ (set clear : Byte) (s : State) (p : Port) (a : Answer) (rest : List Answer),
    s.Undisturbed → s.phase = .active ∨ s.phase = .reconfiguring → s.port = some p → s.answers = a :: rest →
    let mask := s.cfg.rtsBit ||| s.cfg.dtrBit
    let c := (p.ls.modemControl ||| (set &&& mask)) &&& ~~~(clear &&& mask)
    exec (.setLines set clear) s = .next { s with
      port := some { p with ls := { p.ls with modemControl := c } }
      answers := rest
      out := s.out ++ [.sent ⟨.toDevice, 0xA4, (~~~c).zeroExtend 16, 0, 0⟩,
        .result (some (.setLines set clear)) a.outResult] }

/-- The idempotence law (42_modem_lines.md section 2, R155, which the spec derives from R150), under every schedule.
The frame is sent in this step, or stands next to be sent. -/
def Obligations.SetLinesIdempotent : Prop :=
  ∀ (m : Byte) (s : State) (p : Port),
    s.OpenToHost → s.phase = .active ∨ s.phase = .reconfiguring → s.port = some p →
    (m &&& (s.cfg.rtsBit ||| s.cfg.dtrBit)) &&& ~~~p.ls.modemControl = 0 →
    let f : Frame := ⟨.toDevice, 0xA4, (~~~p.ls.modemControl).zeroExtend 16, 0, 0⟩
    ∃ t, exec (.setLines m 0) s = .next t ∧ t.port = some p ∧
      ((t.out = s.out ∧ t.pool = s.pool ++ [⟨.setLines m 0, .send f .ret⟩]) ∨
        ∃ more, t.out = s.out ++ .sent f :: more)

/-- RAISE_LINES (42_modem_lines.md section 4): both lines set or both cleared, the push, and the field kept whatever
the push comes to (the spec's decision D30). The byte is the one SET_LINES would compute with `CTRL_MASK` as its set
mask or its clear mask; it is `CTRL_MASK` or 0 where the field had no other bit. -/
def Obligations.RaiseLinesCompletes : Prop :=
  ∀ (on : Bool) (s : State) (p : Port) (a : Answer) (rest : List Answer),
    s.Undisturbed → s.phase = .active ∨ s.phase = .reconfiguring → s.port = some p → s.answers = a :: rest →
    let mask := s.cfg.rtsBit ||| s.cfg.dtrBit
    let c := if on then p.ls.modemControl ||| mask else p.ls.modemControl &&& ~~~mask
    exec (.raiseLines on) s = .next { s with
      port := some { p with ls := { p.ls with modemControl := c } }
      answers := rest
      out := s.out ++ [.sent ⟨.toDevice, 0xA4, (~~~c).zeroExtend 16, 0, 0⟩,
        .result (some (.raiseLines on)) a.outResult] } ∧
    (c = combineLines s.cfg p.ls.modemControl (if on then mask else 0) (if on then 0 else mask)) ∧
    (p.ls.modemControl &&& ~~~mask = 0 → c = if on then mask else 0)

/-- GET_LINES (42_modem_lines.md section 3), in every phase but `Released` and under every schedule; no frame is sent.
The record's form is the spec's decision D12. -/
def Obligations.GetLinesCompletes : Prop :=
  ∀ (s : State) (p : Port), s.OpenToHost → s.phase ≠ .released → s.port = some p →
    exec .getLines s = .next { s with
      slices := s.slices.tail
      out := s.out ++ [.result (some .getLines) (.ok (.lines
        { rts := decide (p.ls.modemControl &&& s.cfg.rtsBit ≠ 0)
          dtr := decide (p.ls.modemControl &&& s.cfg.dtrBit ≠ 0)
          cts := p.ls.modemStatus.getLsbD 0, dsr := p.ls.modemStatus.getLsbD 1
          ri := p.ls.modemStatus.getLsbD 2, dcd := p.ls.modemStatus.getLsbD 3 }))] }

/-- CARRIER_PRESENT (42_modem_lines.md section 5) is a pure read of the DCD bit, in every phase but `Released` and
under every schedule. -/
def Obligations.CarrierPresentCompletes : Prop :=
  ∀ (s : State) (p : Port), s.OpenToHost → s.phase ≠ .released → s.port = some p →
    exec .carrierPresent s = .next { s with
      slices := s.slices.tail
      out := s.out ++ [.result (some .carrierPresent) (.ok (.flag (p.ls.modemStatus.getLsbD 3)))] }

/-- STATUS_QUERY (42_modem_lines.md section 6): one read; the decoded status is stored and nothing is counted or
reported (the spec's decisions D15 and D16); on an error the field is unchanged. -/
def Obligations.StatusQueryCompletes : Prop :=
  ∀ (s : State) (p : Port) (rest : List Answer), s.Undisturbed → s.cfg.Ok → s.port = some p →
    let f : Frame := ⟨.toHost, 0x95, s.cfg.statusSelector, 0, BitVec.ofNat 16 s.cfg.statusQueryLen⟩
    (∀ bytes b, s.answers = .ok bytes :: rest → bytes.length = s.cfg.statusQueryLen →
      bytes[s.cfg.statusQueryByte]? = some b →
      exec .statusQuery s = .next { s with
        port := some { p with ls := { p.ls with modemStatus := ~~~b &&& 0x0F } }
        answers := rest, out := s.out ++ [.sent f, .result (some .statusQuery) (.ok .unit)] }) ∧
    (∀ bytes, s.answers = .ok bytes :: rest → bytes.length < s.cfg.statusQueryLen →
      exec .statusQuery s = .next { s with
        answers := rest, out := s.out ++ [.sent f, .result (some .statusQuery) (.err .deviceProtocolError)] }) ∧
    (s.answers = .fail :: rest →
      exec .statusQuery s = .next { s with
        answers := rest, out := s.out ++ [.sent f, .result (some .statusQuery) (.err .transferFailure)] })

/-! ## Break -/

/-- SET_BREAK (44_break.md): the pair is read, `BREAK_BIT` and `FF_TX_EN` are cleared or set, every other bit is
written back as read; an error of the read writes nothing. The polarity and the order of the two bytes are the spec's
decision D17. -/
def Obligations.SetBreakCompletes : Prop :=
  ∀ (active : Bool) (s : State) (rest : List Answer),
    s.Undisturbed → s.phase = .active ∨ s.phase = .reconfiguring →
    let sel := pack16 s.cfg.lcrReg s.cfg.breakReg
    let read : Frame := ⟨.toHost, 0x95, sel, 0, 2⟩
    let op : Option Instr := some (.setBreak active)
    (∀ brk lcr a, s.answers = .ok [brk, lcr] :: a :: rest →
      let brk' := if active then brk &&& ~~~s.cfg.breakBit else brk ||| s.cfg.breakBit
      let lcr' := if active then lcr &&& ~~~s.cfg.ffTxEn else lcr ||| s.cfg.ffTxEn
      exec (.setBreak active) s = .next { s with
        answers := rest
        out := s.out ++ [.sent read, .sent ⟨.toDevice, 0x9A, pack16 lcr' brk', sel, 0⟩, .result op a.outResult] }) ∧
    (∀ bytes, s.answers = .ok bytes :: rest → bytes.length < 2 →
      exec (.setBreak active) s = .next { s with
        answers := rest, out := s.out ++ [.sent read, .result op (.err .deviceProtocolError)] }) ∧
    (s.answers = .fail :: rest →
      exec (.setBreak active) s = .next { s with
        answers := rest, out := s.out ++ [.sent read, .result op (.err .transferFailure)] })

/-- The round-trip law (44_break.md, R192, which the spec derives from R190): with a device that answers the second
read with what the first write sent, SET_BREAK(true) followed by SET_BREAK(false) writes the pair back with both bits
1: the pair before the break if both were 1 in it. The state of the block is as before. -/
def Obligations.BreakRoundTrip : Prop :=
  ∀ (s : State) (brk lcr : Byte) (x y : List Byte) (rest : List Answer),
    s.Undisturbed → s.phase = .active ∨ s.phase = .reconfiguring →
    let sel := pack16 s.cfg.lcrReg s.cfg.breakReg
    let read : Frame := ⟨.toHost, 0x95, sel, 0, 2⟩
    let brk' := brk &&& ~~~s.cfg.breakBit
    let lcr' := lcr &&& ~~~s.cfg.ffTxEn
    s.answers = [.ok [brk, lcr], .ok x, .ok [brk', lcr'], .ok y] ++ rest →
    ∃ t, exec (.setBreak true) s = .next t ∧
      exec (.setBreak false) t = .next { s with
        answers := rest
        out := s.out ++
          [.sent read, .sent ⟨.toDevice, 0x9A, pack16 lcr' brk', sel, 0⟩, .result (some (.setBreak true)) (.ok .unit),
           .sent read,
           .sent ⟨.toDevice, 0x9A, pack16 (lcr ||| s.cfg.ffTxEn) (brk ||| s.cfg.breakBit), sel, 0⟩,
           .result (some (.setBreak false)) (.ok .unit)] } ∧
      (brk &&& s.cfg.breakBit = s.cfg.breakBit → lcr &&& s.cfg.ffTxEn = s.cfg.ffTxEn →
        pack16 (lcr ||| s.cfg.ffTxEn) (brk ||| s.cfg.breakBit) = pack16 lcr brk)

/-! ## The status monitor -/

/-- NOTIFY of at least 4 bytes (43_status_monitor.md sections 1 and 2): the status stored, one count for each bit that
changed, the carrier event, and the re-arm in its three outcomes. -/
def Obligations.NotifyCompletes : Prop :=
  ∀ (b0 flags inv b3 : Byte) (more : List Byte) (s : State) (p : Port),
    s.slices = [] → s.monitor = none → s.port = some p → p.subArmed = true →
    let status := ~~~inv &&& 0x0F
    let delta := status ^^^ p.ls.modemStatus
    let s' := if p.stopRearm then s else s.afterSubmit
    exec (.notify (.record (b0 :: flags :: inv :: b3 :: more))) s = .next { s' with
      port := some { p with
        ls := { p.ls with modemStatus := status }
        cnt := { cts := p.cnt.cts + bitCount delta 0x01, dsr := p.cnt.dsr + bitCount delta 0x02
                 ri := p.cnt.ri + bitCount delta 0x04, dcd := p.cnt.dcd + bitCount delta 0x08 }
        subArmed := !p.stopRearm && s.grant
        monitorLost := p.monitorLost || (!p.stopRearm && !s.grant) }
      out := s.out ++ (if delta.getLsbD 3 then [.carrierChange (status.getLsbD 3)] else []) ++
        (if p.stopRearm then [] else if s.grant then [.submit] else [.submit, .monitorLost]) }

/-- NOTIFY of fewer than 4 bytes, or delivered as failed: discarded, and re-armed all the same (43_status_monitor.md
sections 1 and 2; for a delivery that failed, the spec's decision D29). -/
def Obligations.MalformedNotifyOnlyRearms : Prop :=
  ∀ (d : Delivery) (s : State) (p : Port),
    (d = .failed ∨ ∃ bytes, d = .record bytes ∧ bytes.length < 4) →
    s.slices = [] → s.monitor = none → s.port = some p → p.subArmed = true →
    let s' := if p.stopRearm then s else s.afterSubmit
    exec (.notify d) s = .next { s' with
      port := some { p with
        subArmed := !p.stopRearm && s.grant
        monitorLost := p.monitorLost || (!p.stopRearm && !s.grant) }
      out := s.out ++ (if p.stopRearm then [] else if s.grant then [.submit] else [.submit, .monitorLost]) }

/-- Nothing is delivered while no subscription is outstanding, or while a notification is being handled (20_memory.md
R65, 43_status_monitor.md R180); that such a NOTIFY leaves the state alone is the model's choice (log entry 7). In
particular nothing is delivered right after UNSUBSCRIBE. -/
def Obligations.NothingDeliveredUnarmed : Prop :=
  (∀ (d : Delivery) (s : State),
    (s.monitor ≠ none ∨ s.port = none ∨ ∃ p, s.port = some p ∧ p.subArmed = false) → exec (.notify d) s = .next s) ∧
  (∀ (d : Delivery) (s t : State), exec .unsubscribe s = .next t → exec (.notify d) t = .next t)

/-- Only the low four bits of `bytes[2]` have an effect (43_status_monitor.md R172), in the handler's first block from
every state and so in a whole undisturbed handling; and the stored status is active-high. That bit 2 of `bytes[1]` has
none either rests on R174 and on leaving its optional note out (log entry 17). -/
def Obligations.OnlyStatusNibbleMatters : Prop :=
  ∀ (a0 a1 a2 a3 b0 b1 b2 b3 : Byte) (as bs : List Byte) (s : State),
    a2 &&& 0x0F = b2 &&& 0x0F →
    monitorSegment (.decode (.record (a0 :: a1 :: a2 :: a3 :: as))) s =
      monitorSegment (.decode (.record (b0 :: b1 :: b2 :: b3 :: bs))) s ∧
    (s.slices = [] →
      exec (.notify (.record (a0 :: a1 :: a2 :: a3 :: as))) s =
        exec (.notify (.record (b0 :: b1 :: b2 :: b3 :: bs))) s) ∧
    (∀ p, s.slices = [] → s.monitor = none → s.port = some p → p.subArmed = true →
      ∃ t q, exec (.notify (.record (a0 :: a1 :: a2 :: a3 :: as))) s = .next t ∧ t.port = some q ∧
        ∀ i, i < 4 → q.ls.modemStatus.getLsbD i = !a2.getLsbD i)

/-- R173: the status delta law, over any sequence of deliveries, malformed ones among them. That a delivery may also
have failed, and is then discarded, is R182, which rests on the spec's decision D29. -/
def Obligations.StatusDeltaLaw : Prop :=
  ∀ (ds : List Delivery) (s : State) (p : Port) (gs : List Bool),
    s.slices = [] → s.monitor = none → s.port = some p → p.subArmed = true → p.stopRearm = false →
    s.grants = List.replicate ds.length true ++ gs →
    ∃ t q, notifyAll ds s = .next t ∧ t.port = some q ∧
      q.ls.modemStatus = latestStatus p.ls.modemStatus ds ∧
      q.cnt.cts = p.cnt.cts + changesOf 0x01 p.ls.modemStatus ds ∧
      q.cnt.dsr = p.cnt.dsr + changesOf 0x02 p.ls.modemStatus ds ∧
      q.cnt.ri = p.cnt.ri + changesOf 0x04 p.ls.modemStatus ds ∧
      q.cnt.dcd = p.cnt.dcd + changesOf 0x08 p.ls.modemStatus ds

/-- A notification changes nothing of the command agent (60_exceptions.md R243), and sends no control frame
(43_status_monitor.md R176), under every schedule: neither when it is delivered nor when its handler goes on. -/
def Obligations.MonitorLeavesCommandAgentAlone : Prop :=
  ∀ (d : Delivery) (s t : State), exec (.notify d) s = .next t ∨ proceedMonitor s = .next t →
    t.cfg = s.cfg ∧ t.phase = s.phase ∧ t.pool = s.pool ∧ t.inbox = s.inbox ∧ t.answers = s.answers ∧
    (∀ p, s.port = some p → ∃ q, t.port = some q ∧ q.ls.baudRate = p.ls.baudRate ∧
      q.ls.frameFormat = p.ls.frameFormat ∧ q.ls.modemControl = p.ls.modemControl ∧ q.stopRearm = p.stopRearm) ∧
    (s.port = none → t.port = none) ∧
    ∃ es, t.out = s.out ++ es ∧ ∀ f, .sent f ∉ es

/-- The re-arm (43_status_monitor.md R177, 70_reset_and_hazards.md R275), under every schedule. Its block: with
`stop_rearm` set, or with a subscription outstanding already, nothing is submitted; else one `Submit`, with
`MonitorLost` if it is refused. And with `stop_rearm` set, as after teardown has begun, nothing of the handler and no
new delivery submits. -/
def Obligations.RearmOnlyWhenDue : Prop :=
  (∀ (s : State) (p : Port), s.monitor = some .rearm → s.port = some p →
    (p.stopRearm = true ∨ p.subArmed = true →
      proceedMonitor s = .next { s with slices := s.slices.tail, monitor := none }) ∧
    (p.stopRearm = false → p.subArmed = false →
      proceedMonitor s = .next { s.afterSubmit with
        slices := s.slices.tail, monitor := none
        port := some { p with subArmed := s.grant, monitorLost := p.monitorLost || !s.grant }
        out := s.out ++ if s.grant then [.submit] else [.submit, .monitorLost] })) ∧
  ∀ (d : Delivery) (s t : State) (p : Port), s.port = some p → p.stopRearm = true →
    exec (.notify d) s = .next t ∨ proceedMonitor s = .next t →
    ∃ q es, t.port = some q ∧ q.stopRearm = true ∧ (q.subArmed = true → p.subArmed = true) ∧
      t.grants = s.grants ∧ t.asked = s.asked ∧ t.out = s.out ++ es ∧ .submit ∉ es

/-- SUBSCRIBE and UNSUBSCRIBE (43_status_monitor.md section 3), under every schedule. SUBSCRIBE: nothing when already
armed; else one `Submit`, the flags on `Ok`, `TransferFailure` and the flags as they were on `Fail`. UNSUBSCRIBE:
re-arming forbidden, and a `Cancel` if a subscription is outstanding. The error kind and the flags a success clears
are the spec's decision D28. -/
def Obligations.SubscribeAndUnsubscribeComplete : Prop :=
  ∀ (s : State) (p : Port), s.OpenToHost → s.port = some p →
    (p.subArmed = true → exec .subscribe s = .next { s with
      slices := s.slices.tail, out := s.out ++ [.result (some .subscribe) (.ok .unit)] }) ∧
    (p.subArmed = false → s.grant = true → exec .subscribe s = .next { s.afterSubmit with
      slices := s.slices.tail
      port := some { p with subArmed := true, stopRearm := false, monitorLost := false }
      out := s.out ++ [.submit, .result (some .subscribe) (.ok .unit)] }) ∧
    (p.subArmed = false → s.grant = false → exec .subscribe s = .next { s.afterSubmit with
      slices := s.slices.tail
      out := s.out ++ [.submit, .result (some .subscribe) (.err .transferFailure)] }) ∧
    exec .unsubscribe s = .next { s with
      slices := s.slices.tail
      port := some { p with stopRearm := true, subArmed := false }
      out := s.out ++ (if p.subArmed then [.cancel] else []) ++ [.result (some .unsubscribe) (.ok .unit)] }

/-! ## Reset and the lifecycle -/

/-- The state just after CLAIM, which is `State.reset`, and the state before the first CLAIM and after RELEASE
(10_state.md section 8). That reset is the state after CLAIM is log entry 1; that the status and the counters are 0 is
the spec's decisions D14 and D13, and that the block starts in `Released` its decision D33. -/
def Obligations.ResetValues : Prop :=
  State.reset.phase = .unconfigured ∧
  (∃ p, State.reset.port = some p ∧ p.ls.baudRate = 9600 ∧ p.ls.frameFormat = State.reset.cfg.ff8N1 ∧
    p.ls.modemControl = 0 ∧ p.ls.modemStatus = 0 ∧ p.cnt = ⟨0, 0, 0, 0⟩ ∧ p.subArmed = false ∧
    p.stopRearm = false ∧ p.monitorLost = false) ∧
  State.unclaimed.phase = .released ∧ State.unclaimed.port = none ∧
  exec .claim State.unclaimed = .next { State.reset with out := [.result (some .claim) (.ok .unit)] } ∧
  (∀ (s t : State) (r : Result), advance .releaseWait s = .ret r t → t.phase = .released ∧ t.port = none)

/-- CLAIM (45_orchestrator.md section 2) creates the state, with the reset values, from `Released` alone; no frame is
sent. The zeros of the status and the counters are the spec's decisions D14 and D13, the `Refused` its decision D23.
-/
def Obligations.ClaimCompletes : Prop :=
  ∀ s : State,
    (s.phase = .released → (∀ t ∈ s.pool, isLifecycle t.op = false) →
      exec .claim s = .next { s with
        slices := s.slices.tail
        phase := .unconfigured
        port := some { ls := { baudRate := 9600, frameFormat := s.cfg.ff8N1, modemControl := 0, modemStatus := 0 }
                       cnt := { cts := 0, dsr := 0, ri := 0, dcd := 0 }
                       subArmed := false, stopRearm := false, monitorLost := false }
        out := s.out ++ [.result (some .claim) (.ok .unit)] }) ∧
    (s.phase ≠ .released → exec .claim s = .next { s with out := s.out ++ [.result (some .claim) .refused] })

/-- OPEN succeeds (45_orchestrator.md section 3): the five frames of CONFIGURE in order, the subscription unless one
is outstanding, the seed's read; then `Active`, armed, with the device's status. How the seed is read is the spec's
decision D15. -/
def Obligations.OpenCompletes : Prop :=
  ∀ (s : State) (p : Port) (plan : BaudPlan) (payload : U16) (as rest : List Answer) (bytes : List Byte) (b : Byte),
    s.Undisturbed → s.cfg.Ok → s.phase = .unconfigured → (∀ t ∈ s.pool, isLifecycle t.op = false) → s.port = some p →
    synthesizeRate p.ls.baudRate = .ok (plan, payload) →
    let frames := bringUpFrames payload p.ls.frameFormat p.ls.modemControl
    succeedAll frames as = true → s.answers = as ++ .ok bytes :: rest →
    bytes.length = s.cfg.statusQueryLen → bytes[s.cfg.statusQueryByte]? = some b →
    (p.subArmed = true ∨ s.grant = true) →
    let s' := if p.subArmed then s else s.afterSubmit
    let p' := if p.subArmed then p else p.armed
    exec .openPort s = .next { s' with
      phase := .active
      port := some { p' with ls := { p.ls with modemStatus := ~~~b &&& 0x0F } }
      answers := rest
      out := s.out ++ frames.map .sent ++ (if p.subArmed then [] else [.submit]) ++
        [.sent ⟨.toHost, 0x95, s.cfg.statusSelector, 0, BitVec.ofNat 16 s.cfg.statusQueryLen⟩,
         .result (some .openPort) (.ok .unit)] }

/-- OPEN fails in CONFIGURE (45_orchestrator.md section 3): the frames up to the failing one are sent and no later
one; the error is returned and the port's state is as it was (the spec's decisions D20 and D36). -/
def Obligations.OpenFailsInConfigure : Prop :=
  ∀ (s : State) (p : Port) (as rest : List Answer) (e : ErrorKind),
    s.Undisturbed → s.phase = .unconfigured → (∀ t ∈ s.pool, isLifecycle t.op = false) → s.port = some p →
    let done (sent : List Frame) : State := { s with
      answers := rest, out := s.out ++ sent.map .sent ++ [.result (some .openPort) (.err e)] }
    (synthesizeRate p.ls.baudRate = .error e →
      let probes : List Frame := [⟨.toHost, 0x5F, 0, 0, 2⟩, ⟨.toDevice, 0xA1, 0, 0, 0⟩]
      succeedAll probes as = true → s.answers = as ++ rest → exec .openPort s = .next (done probes)) ∧
    (∀ plan payload pre f post a, synthesizeRate p.ls.baudRate = .ok (plan, payload) →
      bringUpFrames payload p.ls.frameFormat p.ls.modemControl = pre ++ f :: post →
      succeedAll pre as = true → f.outcome a = .error e → s.answers = as ++ a :: rest →
      exec .openPort s = .next (done (pre ++ [f])))

/-- OPEN fails in ACTIVATE (45_orchestrator.md section 3): a refused subscription; a failed or short seed read, after
which the subscription is withdrawn, whether OPEN has submitted it or it was outstanding before (the spec's decision
D21). -/
def Obligations.OpenFailsInActivate : Prop :=
  ∀ (s : State) (p : Port) (plan : BaudPlan) (payload : U16) (as rest : List Answer),
    s.Undisturbed → s.cfg.Ok → s.phase = .unconfigured → (∀ t ∈ s.pool, isLifecycle t.op = false) → s.port = some p →
    synthesizeRate p.ls.baudRate = .ok (plan, payload) →
    let frames := bringUpFrames payload p.ls.frameFormat p.ls.modemControl
    let seed : Frame := ⟨.toHost, 0x95, s.cfg.statusSelector, 0, BitVec.ofNat 16 s.cfg.statusQueryLen⟩
    succeedAll frames as = true →
    (p.subArmed = false → s.grant = false → s.answers = as ++ rest →
      exec .openPort s = .next { s.afterSubmit with
        answers := rest
        out := s.out ++ frames.map .sent ++ [.submit, .result (some .openPort) (.err .transferFailure)] }) ∧
    (∀ a e, s.answers = as ++ a :: rest →
      (a = .fail ∧ e = .transferFailure ∨
        ∃ bytes, a = .ok bytes ∧ bytes.length < s.cfg.statusQueryLen ∧ e = .deviceProtocolError) →
      (p.subArmed = false → s.grant = true →
        exec .openPort s = .next { s.afterSubmit with
          port := some { p with subArmed := false, stopRearm := true, monitorLost := false }
          answers := rest
          out := s.out ++ frames.map .sent ++ [.submit, .sent seed, .cancel, .result (some .openPort) (.err e)] }) ∧
      (p.subArmed = true →
        exec .openPort s = .next { s with
          port := some { p with subArmed := false, stopRearm := true }
          answers := rest
          out := s.out ++ frames.map .sent ++ [.sent seed, .cancel, .result (some .openPort) (.err e)] }))

/-- RECONFIGURE and its two pseudo-operations succeed (45_orchestrator.md section 4): the two frames, with both enable
bits forced into the byte (the spec's decision D10); the rate and the byte are stored. -/
def Obligations.ReconfigureCompletes : Prop :=
  ∀ (op : Instr) (b : U32) (f : Byte) (s : State) (p : Port) (plan : BaudPlan) (payload : U16) (x y : List Byte)
    (rest : List Answer),
    s.Undisturbed → s.phase = .active → (∀ t ∈ s.pool, isLifecycle t.op = false) → s.port = some p →
    (op = .reconfigure b f ∨ (op = .setBaudRate b ∧ f = p.ls.frameFormat) ∨
      (op = .setFrameFormat f ∧ b = p.ls.baudRate)) →
    synthesizeRate b = .ok (plan, payload) → s.answers = .ok x :: .ok y :: rest →
    let f' := f ||| s.cfg.ffRxEn ||| s.cfg.ffTxEn
    exec op s = .next { s with
      port := some { p with ls := { p.ls with baudRate := b, frameFormat := f' } }
      answers := rest
      out := s.out ++ [.sent ⟨.toDevice, 0x9A, payload, 0x1312, 0⟩,
        .sent ⟨.toDevice, 0x9A, f'.zeroExtend 16, 0x2518, 0⟩, .result (some op) (.ok .unit)] }

/-- RECONFIGURE and its two pseudo-operations fail (45_orchestrator.md section 4): whichever step fails, the port's
state and the phase are as before; a rejected rate sends nothing, a failed first write stops the second, a failed
second write is followed by no corrective one (the spec's decision D39). -/
def Obligations.ReconfigureRollsBack : Prop :=
  ∀ (op : Instr) (b : U32) (f : Byte) (s : State) (p : Port) (rest : List Answer),
    s.Undisturbed → s.phase = .active → (∀ t ∈ s.pool, isLifecycle t.op = false) → s.port = some p →
    (op = .reconfigure b f ∨ (op = .setBaudRate b ∧ f = p.ls.frameFormat) ∨
      (op = .setFrameFormat f ∧ b = p.ls.baudRate)) →
    let f' := f ||| s.cfg.ffRxEn ||| s.cfg.ffTxEn
    (∀ e, synthesizeRate b = .error e →
      exec op s = .next { s with out := s.out ++ [.result (some op) (.err e)] }) ∧
    (∀ plan payload, synthesizeRate b = .ok (plan, payload) →
      (s.answers = .fail :: rest → exec op s = .next { s with
        answers := rest
        out := s.out ++ [.sent ⟨.toDevice, 0x9A, payload, 0x1312, 0⟩, .result (some op) (.err .transferFailure)] }) ∧
      (∀ x, s.answers = .ok x :: .fail :: rest → exec op s = .next { s with
        answers := rest
        out := s.out ++ [.sent ⟨.toDevice, 0x9A, payload, 0x1312, 0⟩,
          .sent ⟨.toDevice, 0x9A, f'.zeroExtend 16, 0x2518, 0⟩, .result (some op) (.err .transferFailure)] }))

/-- RESUME of a port that was `Active` (45_orchestrator.md section 5): the old subscription is dropped, CONFIGURE, one
`Submit` whose failure is only reported, the seed; the port ends `Active`. The sequence is the spec's decision D22. -/
def Obligations.ResumeRestoresActive : Prop :=
  ∀ (s : State) (p : Port) (plan : BaudPlan) (payload : U16) (as rest : List Answer) (bytes : List Byte) (b : Byte),
    s.Undisturbed → s.cfg.Ok → s.phase = .active → s.pool = [] → s.port = some p →
    synthesizeRate p.ls.baudRate = .ok (plan, payload) →
    let frames := bringUpFrames payload p.ls.frameFormat p.ls.modemControl
    succeedAll frames as = true → s.answers = as ++ .ok bytes :: rest →
    bytes.length = s.cfg.statusQueryLen → bytes[s.cfg.statusQueryByte]? = some b →
    exec .resume s = .next { s.afterSubmit with
      port := some { p with
        ls := { p.ls with modemStatus := ~~~b &&& 0x0F }
        subArmed := s.grant, stopRearm := !s.grant, monitorLost := !s.grant }
      answers := rest
      out := s.out ++ p.cancelEvents ++ frames.map .sent ++ (if s.grant then [.submit] else [.submit, .monitorLost]) ++
        [.sent ⟨.toHost, 0x95, s.cfg.statusSelector, 0, BitVec.ofNat 16 s.cfg.statusQueryLen⟩,
         .result (some .resume) (.ok .unit)] }

/-- RESUME of a port that was `Unconfigured` (45_orchestrator.md section 5): the old subscription, if any, is dropped,
then CONFIGURE only; the phase ends as it was (the spec's decision D22). -/
def Obligations.ResumeKeepsUnconfigured : Prop :=
  ∀ (s : State) (p : Port) (plan : BaudPlan) (payload : U16) (as rest : List Answer),
    s.Undisturbed → s.phase = .unconfigured → s.pool = [] → s.port = some p →
    synthesizeRate p.ls.baudRate = .ok (plan, payload) →
    let frames := bringUpFrames payload p.ls.frameFormat p.ls.modemControl
    succeedAll frames as = true → s.answers = as ++ rest →
    exec .resume s = .next { s with
      port := some p.disarmed
      answers := rest
      out := s.out ++ p.cancelEvents ++ frames.map .sent ++ [.result (some .resume) (.ok .unit)] }

/-- RESUME fails (45_orchestrator.md section 5), in CONFIGURE (a rejected stored rate among it) or at the seed: the
error is returned, the port is `Unconfigured` and unsubscribed, and nothing else of it has changed (but that a
re-subscription before the failed seed has cleared `monitor_lost`, or its failure set it). The spec's decisions D20,
D22 and, for the rejected rate, D36. -/
def Obligations.ResumeFails : Prop :=
  ∀ (s : State) (p : Port) (as rest : List Answer) (e : ErrorKind),
    s.Undisturbed → s.cfg.Ok → s.phase = .active ∨ s.phase = .unconfigured → s.pool = [] → s.port = some p →
    let done (sent : List Frame) : State := { s with
      phase := .unconfigured, port := some p.disarmed, answers := rest
      out := s.out ++ p.cancelEvents ++ sent.map .sent ++ [.result (some .resume) (.err e)] }
    (synthesizeRate p.ls.baudRate = .error e →
      let probes : List Frame := [⟨.toHost, 0x5F, 0, 0, 2⟩, ⟨.toDevice, 0xA1, 0, 0, 0⟩]
      succeedAll probes as = true → s.answers = as ++ rest → exec .resume s = .next (done probes)) ∧
    (∀ plan payload a, synthesizeRate p.ls.baudRate = .ok (plan, payload) → s.answers = as ++ a :: rest →
      let frames := bringUpFrames payload p.ls.frameFormat p.ls.modemControl
      (∀ pre f post, frames = pre ++ f :: post → succeedAll pre as = true → f.outcome a = .error e →
        exec .resume s = .next (done (pre ++ [f]))) ∧
      (s.phase = .active → succeedAll frames as = true →
        (a = .fail ∧ e = .transferFailure ∨
          ∃ bytes, a = .ok bytes ∧ bytes.length < s.cfg.statusQueryLen ∧ e = .deviceProtocolError) →
        exec .resume s = .next { s.afterSubmit with
          phase := .unconfigured
          port := some { p.disarmed with monitorLost := !s.grant }
          answers := rest
          out := s.out ++ p.cancelEvents ++ frames.map .sent ++
            (if s.grant then [.submit] else [.submit, .monitorLost]) ++
            [.sent ⟨.toHost, 0x95, s.cfg.statusSelector, 0, BitVec.ofNat 16 s.cfg.statusQueryLen⟩] ++
            (if s.grant then [.cancel] else []) ++ [.result (some .resume) (.err e)] }))

/-- RELEASE (45_orchestrator.md section 6): unsubscribed in one step; with no notification being handled the state is
discarded; else RELEASE waits, and a later step, once the handler has ended, discards it (the spec's decision D33). -/
def Obligations.ReleaseCompletes : Prop :=
  ∀ (s : State) (p : Port), s.slices = [] → s.port = some p →
    (s.phase = .unconfigured ∨ s.phase = .active → s.pool = [] → s.monitor = none →
      exec .release s = .next { s with
        phase := .released, port := none
        out := s.out ++ p.cancelEvents ++ [.result (some .release) (.ok .unit)] }) ∧
    (s.phase = .unconfigured ∨ s.phase = .active → s.pool = [] → s.monitor ≠ none →
      exec .release s = .next { s with
        port := some p.disarmed, pool := [⟨.release, .releaseWait⟩], out := s.out ++ p.cancelEvents }) ∧
    (s.pool = [⟨.release, .releaseWait⟩] → s.monitor = none → s.inbox = [] →
      step s = .next { s with
        phase := .released, port := none, pool := [], out := s.out ++ [.result (some .release) (.ok .unit)] })

/-! ## The whole machine -/

/-- Every step keeps the invariant of Safety.lean: the bits of LineState that are always 0 or always set, the port
there exactly outside `Released`, a passing phase held only by an operation in progress, lifecycle operations one at a
time, RESUME and RELEASE with nothing beside them and no STATUS_QUERY of the host's left over after them, one transfer
at a time, and no reply longer than asked for (10_state.md R20 to R24, 45_orchestrator.md R200 and R211, 20_memory.md
R64). -/
def Obligations.StepKeepsInvariant : Prop :=
  ∀ s t : State, s.Inv → step s = .next t → t.Inv

/-- The invariant holds just after CLAIM and before the first one (the choice of the two as the machine's first states
is log entry 1). -/
def Obligations.InvariantAtStart : Prop :=
  State.reset.Inv ∧ State.unclaimed.Inv

/-- No step changes the parameters (10_state.md R37; that they stand in the state is log entry 2). -/
def Obligations.StepKeepsParameters : Prop :=
  ∀ s t : State, step s = .next t → t.cfg = s.cfg

/-- The phase machine (45_orchestrator.md R200): every segment of an operation leaves the phase or takes it along one
of the transitions of the table, and only a lifecycle operation changes it. -/
def Obligations.SegmentsFollowPhaseMachine : Prop :=
  (∀ (pos : Pos) (s t : State), (pos.isLife = true → pos.fits s.phase = true) → (advance pos s).state = some t →
    t.phase = s.phase ∨ (pos.isLife = true ∧ phaseEdge s.phase t.phase = true)) ∧
  (∀ (i : Instr) (s t : State) (rest : List Nat), s.slices = 0 :: rest → exec i s = .next t →
    t.phase = s.phase ∨ (isLifecycle i = true ∧ phaseEdge s.phase t.phase = true))

/-- Only CLAIM, SET_LINES and RAISE_LINES change `LS.modem_control` (10_state.md R23, 42_modem_lines.md R156): no
reply of the device and no notification does. -/
def Obligations.OnlyLineOperationsWriteIntent : Prop :=
  ∀ (s t : State) (p q : Port), step s = .next t → s.port = some p → t.port = some q →
    q.ls.modemControl ≠ p.ls.modemControl →
    ∃ e rest i, s.inbox = .call e :: rest ∧ decode e = .ok i ∧
      (i = .claim ∨ (∃ a b, i = .setLines a b) ∨ ∃ on, i = .raiseLines on)

/-- What the segments of operations in progress write of LineState and the counters (10_state.md R21 to R26). -/
def Obligations.SegmentsWriteOnlyTheirField : Prop :=
  ∀ (pos : Pos) (s t : State) (p q : Port), (advance pos s).state = some t → s.port = some p → t.port = some q →
    q.ls.modemControl = p.ls.modemControl ∧ q.cnt = p.cnt ∧
    (q.ls.modemStatus ≠ p.ls.modemStatus → ∃ f a k, pos = .answered f a (.query k)) ∧
    (q.ls.frameFormat ≠ p.ls.frameFormat → ∃ f a old g, pos = .answered f a (.secondWrite (.reconfigure old g))) ∧
    (q.ls.baudRate ≠ p.ls.baudRate →
      (∃ b f, pos = .swapBaud b f) ∨ (∃ old k, pos = .rollback old k) ∨
      (∃ f a old g, pos = .answered f a (.secondWrite (.reconfigure old g))) ∨
      ∃ f a g old h, pos = .answered f a (.firstWrite g (.reconfigure old h)))

/-- The transition counters never go down while the port exists (10_state.md R26, 60_exceptions.md R247). -/
def Obligations.CountersNeverGoDown : Prop :=
  ∀ (s t : State) (p q : Port), s.Inv → step s = .next t → s.port = some p → t.port = some q →
    p.cnt.cts ≤ q.cnt.cts ∧ p.cnt.dsr ≤ q.cnt.dsr ∧ p.cnt.ri ≤ q.cnt.ri ∧ p.cnt.dcd ≤ q.cnt.dcd

/-- No step faults in a state that keeps the invariant: under the host's duty no operation uses the port's state where
there is none (10_state.md R36, 45_orchestrator.md R211). A STATUS_QUERY of the host's that had outlived the port, which
the duty rules out, "would have no state to write" (70_reset_and_hazards.md R275); that it faults is log entry 12. -/
def Obligations.FaultOnlyAfterDiscard : Prop :=
  (∀ (s : State) (f : Fault), s.Inv → step s ≠ .fault f) ∧
  (∀ (s : State) (j : Nat) (more : List Input) (op : Instr) (f : Frame) (bytes : List Byte) (b : Byte),
    s.port = none → s.inbox = .proceed j :: more →
    s.pool[j]? = some ⟨op, .answered f (.ok bytes) (.query .direct)⟩ →
    f.dir = .toHost → bytes.length = f.length.toNat → bytes[s.cfg.statusQueryByte]? = some b →
    step s = .fault .noLineState)

/-- Every invocation the host's duty admits ends in an undisturbed run: six answers of the channel are enough for any
operation (45_orchestrator.md sections 3 and 5), whatever they are, and where no notification is being handled it
waits for nothing else. -/
def Obligations.EveryInvocationEnds : Prop :=
  ∀ (i : Instr) (s : State), s.Inv → s.Undisturbed → s.monitor = none → dutyKept i s = true →
    6 ≤ s.answers.length → ∃ t, exec i s = .next t ∧ t.pool = s.pool ∧ t.monitor = none

/-! ## Interleavings the spec says a model must admit -/

/-- Hazard R268 (95_test_vectors.md I1), in the schedule of log entry 3: two SET_LINES run their atomic blocks in one
order and push in the other; the field has both changes and the last byte sent only the first. -/
def Obligations.PushesCanBeReordered : Prop :=
  ∀ (a b : Byte) (s : State) (p : Port) (x y : List Byte),
    s.phase = .active → s.port = some p → s.pool = [] → s.slices = [0, 0] → s.answers = [.ok x, .ok y] →
    s.inbox = [.call (encode (.setLines a 0)), .call (encode (.setLines b 0)), .proceed 1, .proceed 0] →
    let mask := s.cfg.rtsBit ||| s.cfg.dtrBit
    let first := p.ls.modemControl ||| (a &&& mask)
    let both := first ||| (b &&& mask)
    ∃ t, Host.Core.run Sys2Proof.core 4 s = .next t ∧
      t.port = some { p with ls := { p.ls with modemControl := both } } ∧
      t.out = s.out ++
        [.sent ⟨.toDevice, 0xA4, (~~~both).zeroExtend 16, 0, 0⟩, .result (some (.setLines b 0)) (.ok .unit),
         .sent ⟨.toDevice, 0xA4, (~~~first).zeroExtend 16, 0, 0⟩, .result (some (.setLines a 0)) (.ok .unit)]

/-- Hazard R269 (95_test_vectors.md I2), in the schedule of log entry 3: a notification handled between the read and the
write of a status query, the seed of OPEN or of RESUME or the host's own, is overwritten by the older status; its
counts and its event stand. -/
def Obligations.SeedCanOverwriteNotification : Prop :=
  ∀ (b0 flags inv b3 b : Byte) (bytes : List Byte) (s : State) (p : Port) (gs : List Bool) (f : Frame) (op : Instr)
    (k : QueryCaller),
    s.port = some p → p.subArmed = true → p.stopRearm = false → s.monitor = none → s.slices = [] →
    s.grants = true :: gs → f.dir = .toHost → bytes.length = f.length.toNat →
    bytes[s.cfg.statusQueryByte]? = some b →
    s.pool = [⟨op, .answered f (.ok bytes) (.query k)⟩] →
    s.inbox = [.call (.notify4 (.record [b0, flags, inv, b3])), .proceed 0] →
    let delta := (~~~inv &&& 0x0F) ^^^ p.ls.modemStatus
    Host.Core.run Sys2Proof.core 2 s = .next { s with
      phase := if k = .direct then s.phase else .active
      port := some { p with
        ls := { p.ls with modemStatus := ~~~b &&& 0x0F }
        cnt := { cts := p.cnt.cts + bitCount delta 0x01, dsr := p.cnt.dsr + bitCount delta 0x02
                 ri := p.cnt.ri + bitCount delta 0x04, dcd := p.cnt.dcd + bitCount delta 0x08 } }
      pool := [], inbox := [], grants := gs
      out := s.out ++ (if delta.getLsbD 3 then [.carrierChange (!inv.getLsbD 3)] else []) ++
        [.submit, .result (some op) (.ok .unit)] }
end

