-- ==== Sys2Proof/Laws/Config.lean ====
section
/-!
SUPPORT. The parameters of the machine after reset meet R6's constraints, whatever the free constants are, and the
host's frame-format encoding sets both enable bits.
-/

namespace Sys2Proof.Config

theorem bitAt_isOneBit (i : Nat) : isOneBit (bitAt i) = true := by
  have h : ∀ k : Fin 8, isOneBit (1#8 <<< k.val) = true := by decide
  exact h ⟨i % 8, Nat.mod_lt _ (by decide)⟩

theorem bitAt_ne (i d : Nat) (hd : d < 7) : bitAt i ≠ bitAt (i + 1 + d) := by
  have h : ∀ a : Fin 8, ∀ e : Fin 7, (1#8 <<< a.val) ≠ (1#8 <<< ((a.val + 1 + e.val) % 8)) := by decide
  have key := h ⟨i % 8, Nat.mod_lt _ (by decide)⟩ ⟨d, hd⟩
  have e : (i + 1 + d) % 8 = (i % 8 + 1 + d) % 8 := by omega
  simpa [bitAt, e] using key

theorem or_and_self_right (a b : Byte) : (a ||| b) &&& b = b := by
  ext i hi; simp +contextual

theorem or_or_and_middle (a b d : Byte) : (a ||| b ||| d) &&& b = b := by
  ext i hi; simp +contextual

theorem implementation_ok : implementation.Ok := by
  refine ⟨bitAt_isOneBit _, bitAt_isOneBit _, bitAt_ne _ _ dtrAfterRts.isLt, bitAt_isOneBit _, bitAt_isOneBit _,
    bitAt_ne _ _ txAfterRx.isLt, or_or_and_middle _ _ _, or_and_self_right _ _, bitAt_isOneBit _, ?_, ?_⟩
  · simp only [implementation]; omega
  · have h := statusByteFree.isLt
    have := Nat.mod_lt statusLenExtra (show 65535 - statusByteFree.val > 0 by omega)
    simp only [implementation]; omega

theorem ffEncode_enabled (c : Params) (hc : c.Ok) (d : DataBits) (p : Parity) (t : StopBits) :
    c.ffEncode d p t &&& c.ffRxEn = c.ffRxEn ∧ c.ffEncode d p t &&& c.ffTxEn = c.ffTxEn := by
  obtain ⟨-, -, -, -, -, -, hr, ht, -⟩ := hc
  unfold Params.ffEncode
  split
  · exact ⟨hr, ht⟩
  · exact ⟨or_or_and_middle _ _ _, or_and_self_right _ _⟩

end Sys2Proof.Config
end

