-- ==== Sys2Proof/Laws/State.lean ====
section
/-!
SUPPORT. One lemma per field per update of the state and of the port, so that no proof unfolds a record update.
-/

namespace Sys2Proof.Machine

/-! ## The state -/

@[simp] theorem State.emit_cfg (s : State) (es : List PortEvent) : (s.emit es).cfg = s.cfg := rfl
@[simp] theorem State.emit_phase (s : State) (es : List PortEvent) : (s.emit es).phase = s.phase := rfl
@[simp] theorem State.emit_port (s : State) (es : List PortEvent) : (s.emit es).port = s.port := rfl
@[simp] theorem State.emit_pool (s : State) (es : List PortEvent) : (s.emit es).pool = s.pool := rfl
@[simp] theorem State.emit_monitor (s : State) (es : List PortEvent) : (s.emit es).monitor = s.monitor := rfl
@[simp] theorem State.emit_inbox (s : State) (es : List PortEvent) : (s.emit es).inbox = s.inbox := rfl
@[simp] theorem State.emit_answers (s : State) (es : List PortEvent) : (s.emit es).answers = s.answers := rfl
@[simp] theorem State.emit_grants (s : State) (es : List PortEvent) : (s.emit es).grants = s.grants := rfl
@[simp] theorem State.emit_slices (s : State) (es : List PortEvent) : (s.emit es).slices = s.slices := rfl
@[simp] theorem State.emit_asked (s : State) (es : List PortEvent) : (s.emit es).asked = s.asked := rfl
@[simp] theorem State.emit_out (s : State) (es : List PortEvent) : (s.emit es).out = s.out ++ es := rfl

@[simp] theorem State.respond_cfg (s : State) (op : Option Instr) (r : Result) : (s.respond op r).cfg = s.cfg := rfl
@[simp] theorem State.respond_phase (s : State) (op : Option Instr) (r : Result) : (s.respond op r).phase = s.phase := rfl
@[simp] theorem State.respond_port (s : State) (op : Option Instr) (r : Result) : (s.respond op r).port = s.port := rfl
@[simp] theorem State.respond_pool (s : State) (op : Option Instr) (r : Result) : (s.respond op r).pool = s.pool := rfl
@[simp] theorem State.respond_monitor (s : State) (op : Option Instr) (r : Result) : (s.respond op r).monitor = s.monitor := rfl
@[simp] theorem State.respond_inbox (s : State) (op : Option Instr) (r : Result) : (s.respond op r).inbox = s.inbox := rfl
@[simp] theorem State.respond_answers (s : State) (op : Option Instr) (r : Result) : (s.respond op r).answers = s.answers := rfl
@[simp] theorem State.respond_grants (s : State) (op : Option Instr) (r : Result) : (s.respond op r).grants = s.grants := rfl
@[simp] theorem State.respond_slices (s : State) (op : Option Instr) (r : Result) : (s.respond op r).slices = s.slices := rfl
@[simp] theorem State.respond_asked (s : State) (op : Option Instr) (r : Result) : (s.respond op r).asked = s.asked := rfl
@[simp] theorem State.respond_out (s : State) (op : Option Instr) (r : Result) : (s.respond op r).out = s.out ++ [.result op r] := rfl

@[simp] theorem State.setPort_cfg (s : State) (p : Port) : (s.setPort p).cfg = s.cfg := rfl
@[simp] theorem State.setPort_phase (s : State) (p : Port) : (s.setPort p).phase = s.phase := rfl
@[simp] theorem State.setPort_port (s : State) (p : Port) : (s.setPort p).port = some p := rfl
@[simp] theorem State.setPort_pool (s : State) (p : Port) : (s.setPort p).pool = s.pool := rfl
@[simp] theorem State.setPort_monitor (s : State) (p : Port) : (s.setPort p).monitor = s.monitor := rfl
@[simp] theorem State.setPort_inbox (s : State) (p : Port) : (s.setPort p).inbox = s.inbox := rfl
@[simp] theorem State.setPort_answers (s : State) (p : Port) : (s.setPort p).answers = s.answers := rfl
@[simp] theorem State.setPort_grants (s : State) (p : Port) : (s.setPort p).grants = s.grants := rfl
@[simp] theorem State.setPort_slices (s : State) (p : Port) : (s.setPort p).slices = s.slices := rfl
@[simp] theorem State.setPort_asked (s : State) (p : Port) : (s.setPort p).asked = s.asked := rfl
@[simp] theorem State.setPort_out (s : State) (p : Port) : (s.setPort p).out = s.out := rfl

@[simp] theorem State.setPhase_cfg (s : State) (p : Phase) : (s.setPhase p).cfg = s.cfg := rfl
@[simp] theorem State.setPhase_phase (s : State) (p : Phase) : (s.setPhase p).phase = p := rfl
@[simp] theorem State.setPhase_port (s : State) (p : Phase) : (s.setPhase p).port = s.port := rfl
@[simp] theorem State.setPhase_pool (s : State) (p : Phase) : (s.setPhase p).pool = s.pool := rfl
@[simp] theorem State.setPhase_monitor (s : State) (p : Phase) : (s.setPhase p).monitor = s.monitor := rfl
@[simp] theorem State.setPhase_inbox (s : State) (p : Phase) : (s.setPhase p).inbox = s.inbox := rfl
@[simp] theorem State.setPhase_answers (s : State) (p : Phase) : (s.setPhase p).answers = s.answers := rfl
@[simp] theorem State.setPhase_grants (s : State) (p : Phase) : (s.setPhase p).grants = s.grants := rfl
@[simp] theorem State.setPhase_slices (s : State) (p : Phase) : (s.setPhase p).slices = s.slices := rfl
@[simp] theorem State.setPhase_asked (s : State) (p : Phase) : (s.setPhase p).asked = s.asked := rfl
@[simp] theorem State.setPhase_out (s : State) (p : Phase) : (s.setPhase p).out = s.out := rfl

@[simp] theorem State.takeSlice_cfg (s : State) : s.takeSlice.cfg = s.cfg := rfl
@[simp] theorem State.takeSlice_phase (s : State) : s.takeSlice.phase = s.phase := rfl
@[simp] theorem State.takeSlice_port (s : State) : s.takeSlice.port = s.port := rfl
@[simp] theorem State.takeSlice_pool (s : State) : s.takeSlice.pool = s.pool := rfl
@[simp] theorem State.takeSlice_monitor (s : State) : s.takeSlice.monitor = s.monitor := rfl
@[simp] theorem State.takeSlice_inbox (s : State) : s.takeSlice.inbox = s.inbox := rfl
@[simp] theorem State.takeSlice_answers (s : State) : s.takeSlice.answers = s.answers := rfl
@[simp] theorem State.takeSlice_grants (s : State) : s.takeSlice.grants = s.grants := rfl
@[simp] theorem State.takeSlice_slices (s : State) : s.takeSlice.slices = s.slices.tail := rfl
@[simp] theorem State.takeSlice_asked (s : State) : s.takeSlice.asked = s.asked := rfl
@[simp] theorem State.takeSlice_out (s : State) : s.takeSlice.out = s.out := rfl

@[simp] theorem State.park_cfg (s : State) (op : Instr) (pos : Pos) : (s.park op pos).cfg = s.cfg := rfl
@[simp] theorem State.park_phase (s : State) (op : Instr) (pos : Pos) : (s.park op pos).phase = s.phase := rfl
@[simp] theorem State.park_port (s : State) (op : Instr) (pos : Pos) : (s.park op pos).port = s.port := rfl
@[simp] theorem State.park_pool (s : State) (op : Instr) (pos : Pos) : (s.park op pos).pool = s.pool ++ [{ op := op, pos := pos }] := rfl
@[simp] theorem State.park_monitor (s : State) (op : Instr) (pos : Pos) : (s.park op pos).monitor = s.monitor := rfl
@[simp] theorem State.park_inbox (s : State) (op : Instr) (pos : Pos) : (s.park op pos).inbox = s.inbox := rfl
@[simp] theorem State.park_answers (s : State) (op : Instr) (pos : Pos) : (s.park op pos).answers = s.answers := rfl
@[simp] theorem State.park_grants (s : State) (op : Instr) (pos : Pos) : (s.park op pos).grants = s.grants := rfl
@[simp] theorem State.park_slices (s : State) (op : Instr) (pos : Pos) : (s.park op pos).slices = s.slices := rfl
@[simp] theorem State.park_asked (s : State) (op : Instr) (pos : Pos) : (s.park op pos).asked = s.asked := rfl
@[simp] theorem State.park_out (s : State) (op : Instr) (pos : Pos) : (s.park op pos).out = s.out := rfl

@[simp] theorem State.unsubscribe_cfg (s : State) (p : Port) : (s.unsubscribe p).cfg = s.cfg := rfl
@[simp] theorem State.unsubscribe_phase (s : State) (p : Port) : (s.unsubscribe p).phase = s.phase := rfl
@[simp] theorem State.unsubscribe_port (s : State) (p : Port) : (s.unsubscribe p).port = some { p with stopRearm := true, subArmed := false } := rfl
@[simp] theorem State.unsubscribe_pool (s : State) (p : Port) : (s.unsubscribe p).pool = s.pool := rfl
@[simp] theorem State.unsubscribe_monitor (s : State) (p : Port) : (s.unsubscribe p).monitor = s.monitor := rfl
@[simp] theorem State.unsubscribe_inbox (s : State) (p : Port) : (s.unsubscribe p).inbox = s.inbox := rfl
@[simp] theorem State.unsubscribe_answers (s : State) (p : Port) : (s.unsubscribe p).answers = s.answers := rfl
@[simp] theorem State.unsubscribe_grants (s : State) (p : Port) : (s.unsubscribe p).grants = s.grants := rfl
@[simp] theorem State.unsubscribe_slices (s : State) (p : Port) : (s.unsubscribe p).slices = s.slices := rfl
@[simp] theorem State.unsubscribe_asked (s : State) (p : Port) : (s.unsubscribe p).asked = s.asked := rfl
@[simp] theorem State.unsubscribe_out (s : State) (p : Port) : (s.unsubscribe p).out = s.out ++ (if p.subArmed then [.cancel] else []) := rfl

@[simp] theorem State.deliver_cfg (s : State) (p : Port) (d : Delivery) : (s.deliver p d).cfg = s.cfg := rfl
@[simp] theorem State.deliver_phase (s : State) (p : Port) (d : Delivery) : (s.deliver p d).phase = s.phase := rfl
@[simp] theorem State.deliver_port (s : State) (p : Port) (d : Delivery) : (s.deliver p d).port = some { p with subArmed := false } := rfl
@[simp] theorem State.deliver_pool (s : State) (p : Port) (d : Delivery) : (s.deliver p d).pool = s.pool := rfl
@[simp] theorem State.deliver_monitor (s : State) (p : Port) (d : Delivery) : (s.deliver p d).monitor = some (.decode d) := rfl
@[simp] theorem State.deliver_inbox (s : State) (p : Port) (d : Delivery) : (s.deliver p d).inbox = s.inbox := rfl
@[simp] theorem State.deliver_answers (s : State) (p : Port) (d : Delivery) : (s.deliver p d).answers = s.answers := rfl
@[simp] theorem State.deliver_grants (s : State) (p : Port) (d : Delivery) : (s.deliver p d).grants = s.grants := rfl
@[simp] theorem State.deliver_slices (s : State) (p : Port) (d : Delivery) : (s.deliver p d).slices = s.slices := rfl
@[simp] theorem State.deliver_asked (s : State) (p : Port) (d : Delivery) : (s.deliver p d).asked = s.asked := rfl
@[simp] theorem State.deliver_out (s : State) (p : Port) (d : Delivery) : (s.deliver p d).out = s.out := rfl

/-! ## The port -/

@[simp] theorem Port.setBaud_baudRate (p : Port) (x : U32) : (p.setBaud x).ls.baudRate = x := rfl
@[simp] theorem Port.setBaud_frameFormat (p : Port) (x : U32) : (p.setBaud x).ls.frameFormat = p.ls.frameFormat := rfl
@[simp] theorem Port.setBaud_modemControl (p : Port) (x : U32) : (p.setBaud x).ls.modemControl = p.ls.modemControl := rfl
@[simp] theorem Port.setBaud_modemStatus (p : Port) (x : U32) : (p.setBaud x).ls.modemStatus = p.ls.modemStatus := rfl
@[simp] theorem Port.setBaud_cnt (p : Port) (x : U32) : (p.setBaud x).cnt = p.cnt := rfl
@[simp] theorem Port.setBaud_subArmed (p : Port) (x : U32) : (p.setBaud x).subArmed = p.subArmed := rfl
@[simp] theorem Port.setBaud_stopRearm (p : Port) (x : U32) : (p.setBaud x).stopRearm = p.stopRearm := rfl
@[simp] theorem Port.setBaud_monitorLost (p : Port) (x : U32) : (p.setBaud x).monitorLost = p.monitorLost := rfl

@[simp] theorem Port.setFormat_baudRate (p : Port) (x : Byte) : (p.setFormat x).ls.baudRate = p.ls.baudRate := rfl
@[simp] theorem Port.setFormat_frameFormat (p : Port) (x : Byte) : (p.setFormat x).ls.frameFormat = x := rfl
@[simp] theorem Port.setFormat_modemControl (p : Port) (x : Byte) : (p.setFormat x).ls.modemControl = p.ls.modemControl := rfl
@[simp] theorem Port.setFormat_modemStatus (p : Port) (x : Byte) : (p.setFormat x).ls.modemStatus = p.ls.modemStatus := rfl
@[simp] theorem Port.setFormat_cnt (p : Port) (x : Byte) : (p.setFormat x).cnt = p.cnt := rfl
@[simp] theorem Port.setFormat_subArmed (p : Port) (x : Byte) : (p.setFormat x).subArmed = p.subArmed := rfl
@[simp] theorem Port.setFormat_stopRearm (p : Port) (x : Byte) : (p.setFormat x).stopRearm = p.stopRearm := rfl
@[simp] theorem Port.setFormat_monitorLost (p : Port) (x : Byte) : (p.setFormat x).monitorLost = p.monitorLost := rfl

@[simp] theorem Port.setControl_baudRate (p : Port) (x : Byte) : (p.setControl x).ls.baudRate = p.ls.baudRate := rfl
@[simp] theorem Port.setControl_frameFormat (p : Port) (x : Byte) : (p.setControl x).ls.frameFormat = p.ls.frameFormat := rfl
@[simp] theorem Port.setControl_modemControl (p : Port) (x : Byte) : (p.setControl x).ls.modemControl = x := rfl
@[simp] theorem Port.setControl_modemStatus (p : Port) (x : Byte) : (p.setControl x).ls.modemStatus = p.ls.modemStatus := rfl
@[simp] theorem Port.setControl_cnt (p : Port) (x : Byte) : (p.setControl x).cnt = p.cnt := rfl
@[simp] theorem Port.setControl_subArmed (p : Port) (x : Byte) : (p.setControl x).subArmed = p.subArmed := rfl
@[simp] theorem Port.setControl_stopRearm (p : Port) (x : Byte) : (p.setControl x).stopRearm = p.stopRearm := rfl
@[simp] theorem Port.setControl_monitorLost (p : Port) (x : Byte) : (p.setControl x).monitorLost = p.monitorLost := rfl

@[simp] theorem Port.setStatus_baudRate (p : Port) (x : Byte) : (p.setStatus x).ls.baudRate = p.ls.baudRate := rfl
@[simp] theorem Port.setStatus_frameFormat (p : Port) (x : Byte) : (p.setStatus x).ls.frameFormat = p.ls.frameFormat := rfl
@[simp] theorem Port.setStatus_modemControl (p : Port) (x : Byte) : (p.setStatus x).ls.modemControl = p.ls.modemControl := rfl
@[simp] theorem Port.setStatus_modemStatus (p : Port) (x : Byte) : (p.setStatus x).ls.modemStatus = x := rfl
@[simp] theorem Port.setStatus_cnt (p : Port) (x : Byte) : (p.setStatus x).cnt = p.cnt := rfl
@[simp] theorem Port.setStatus_subArmed (p : Port) (x : Byte) : (p.setStatus x).subArmed = p.subArmed := rfl
@[simp] theorem Port.setStatus_stopRearm (p : Port) (x : Byte) : (p.setStatus x).stopRearm = p.stopRearm := rfl
@[simp] theorem Port.setStatus_monitorLost (p : Port) (x : Byte) : (p.setStatus x).monitorLost = p.monitorLost := rfl

end Sys2Proof.Machine
end

