-- ==== Sys2Proof/Laws/Ops.lean ====
section
/-!
SUPPORT. One lemma per shared operation that says once what it can do.
-/

namespace Sys2Proof.Machine

/-! ## Segments -/

/-- A segment that uses the port's state either has it or faults. -/
theorem withPort_cases (s : State) (f : Port → Seg) :
    (∃ p, s.port = some p ∧ withPort s f = f p) ∨ (s.port = none ∧ withPort s f = .fault .noLineState) := by
  unfold withPort
  cases h : s.port with
  | none => exact .inr ⟨rfl, rfl⟩
  | some p => exact .inl ⟨p, rfl, rfl⟩

@[simp] theorem withPort_some {s : State} {p : Port} (h : s.port = some p) (f : Port → Seg) : withPort s f = f p := by
  simp [withPort, h]

@[simp] theorem raise_eq (k : ErrorKind) (s : State) : raise k s = .ret (.err k) s := rfl

/-! ## Transfers -/

@[simp] theorem completion_fail (f : Frame) : f.completion .fail = .error .transferFailure := rfl

theorem completion_toDevice {f : Frame} (h : f.dir = .toDevice) (bytes : List Byte) :
    f.completion (.ok bytes) = .ok [] := by
  simp [Frame.completion, h]

theorem completion_toHost {f : Frame} (h : f.dir = .toHost) (bytes : List Byte) :
    f.completion (.ok bytes) =
      if bytes.length = f.length.toNat then .ok bytes else .error .deviceProtocolError := by
  simp [Frame.completion, h]

/-- A transfer ends with one of three outcomes (R103): the bytes, `TransferFailure` exactly when the channel failed,
`DeviceProtocolError` exactly when an `IN` frame came back with another number of bytes. -/
theorem completion_cases (f : Frame) (a : Answer) :
    (∃ bytes, a = .ok bytes ∧ (f.dir = .toHost → bytes.length = f.length.toNat) ∧
      f.completion a = .ok (if f.dir = .toHost then bytes else [])) ∨
    (a = .fail ∧ f.completion a = .error .transferFailure) ∨
    (∃ bytes, a = .ok bytes ∧ f.dir = .toHost ∧ bytes.length ≠ f.length.toNat ∧
      f.completion a = .error .deviceProtocolError) := by
  cases a with
  | fail => exact .inr (.inl ⟨rfl, rfl⟩)
  | ok bytes =>
    cases h : f.dir with
    | toDevice => exact .inl ⟨bytes, rfl, by simp, by simp [Frame.completion, h]⟩
    | toHost =>
      by_cases hl : bytes.length = f.length.toNat
      · exact .inl ⟨bytes, rfl, fun _ => hl, by simp [Frame.completion, h, hl]⟩
      · exact .inr (.inr ⟨bytes, rfl, rfl, hl, by simp [Frame.completion, h, hl]⟩)

@[simp] theorem reply_fail (f : Frame) : f.reply .fail = .fail := rfl

@[simp] theorem reply_ok (f : Frame) (bytes : List Byte) : f.reply (.ok bytes) = .ok (bytes.take f.length.toNat) := rfl

/-- The channel never returns more bytes than were asked for (R64). -/
theorem reply_length {f : Frame} {a : Answer} {bytes : List Byte} (h : f.reply a = .ok bytes) :
    bytes.length ≤ f.length.toNat := by
  cases a with
  | fail => simp at h
  | ok x => simp only [reply_ok, Answer.ok.injEq] at h; subst h; simp

@[simp] theorem outcome_fail (f : Frame) : f.outcome .fail = .error .transferFailure := rfl

theorem outcome_toDevice {f : Frame} (h : f.dir = .toDevice) (bytes : List Byte) : f.outcome (.ok bytes) = .ok [] :=
  completion_toDevice h _

/-- A whole `IN` transfer: the bytes asked for, or a short reply. -/
theorem outcome_toHost {f : Frame} (h : f.dir = .toHost) (bytes : List Byte) :
    f.outcome (.ok bytes) =
      if f.length.toNat ≤ bytes.length then .ok (bytes.take f.length.toNat) else .error .deviceProtocolError := by
  simp [Frame.outcome, completion_toHost h]

/-! ## The subscription -/

@[simp] theorem submit_listed {s : State} {g : Bool} {gs : List Bool} (h : s.grants = g :: gs) :
    s.submit = (g, { s with grants := gs, out := s.out ++ [.submit] }) := by
  simp [State.submit, h]

/-- `SubSubmit()` answers, puts `Submit` on the SUB port, and changes nothing else but the record of answers. -/
theorem submit_spec (s : State) :
    ∃ g gs n, s.submit = (g, { s with grants := gs, asked := n, out := s.out ++ [.submit] }) := by
  unfold State.submit
  cases h : s.grants with
  | nil => exact ⟨Config.freeGrant s.asked, [], s.asked + 1, by simp [← h]⟩
  | cons g gs => exact ⟨g, gs, s.asked, rfl⟩

/-- SUBSCRIBE's atomic block: nothing when already armed; else one `Submit`, and the flags set on `Ok`. -/
theorem subscribe_spec (s : State) (p : Port) :
    (p.subArmed = true ∧ s.subscribe p = (true, s)) ∨
    (p.subArmed = false ∧ ∃ gs n,
      s.subscribe p = (true, { s with grants := gs, asked := n, out := s.out ++ [.submit],
                                      port := some { p with subArmed := true, stopRearm := false,
                                                            monitorLost := false } }) ∨
      s.subscribe p = (false, { s with grants := gs, asked := n, out := s.out ++ [.submit] })) := by
  unfold State.subscribe
  cases h : p.subArmed with
  | true => exact .inl ⟨rfl, by simp⟩
  | false =>
    obtain ⟨g, gs, n, hg⟩ := submit_spec s
    refine .inr ⟨rfl, gs, n, ?_⟩
    cases g <;> simp [hg, State.setPort]

/-- The re-arm: the handler ends; it submits only if re-arming is not forbidden and nothing is outstanding. -/
theorem rearm_spec (s : State) (p : Port) :
    ((p.stopRearm = true ∨ p.subArmed = true) ∧ s.rearm p = { s with monitor := none }) ∨
    (p.stopRearm = false ∧ p.subArmed = false ∧ ∃ gs n,
      s.rearm p = { s with monitor := none, grants := gs, asked := n, out := s.out ++ [.submit],
                           port := some { p with subArmed := true } } ∨
      s.rearm p = { s with monitor := none, grants := gs, asked := n, out := s.out ++ [.submit] ++ [.monitorLost],
                           port := some { p with monitorLost := true } }) := by
  unfold State.rearm
  cases hs : p.stopRearm with
  | true => exact .inl ⟨.inl rfl, by simp⟩
  | false =>
    cases ha : p.subArmed with
    | true => exact .inl ⟨.inr rfl, by simp⟩
    | false =>
      obtain ⟨g, gs, n, hg⟩ := submit_spec s
      refine .inr ⟨rfl, rfl, gs, n, ?_⟩
      cases g <;> simp [hg, State.setPort, State.emit]

theorem deliverable_iff (s : State) :
    s.deliverable = true ↔ s.monitor = none ∧ ∃ p, s.port = some p ∧ p.subArmed = true := by
  unfold State.deliverable
  cases s.monitor <;> cases s.port <;> simp

/-! ## The schedule -/

@[simp] theorem slice_nil {s : State} (h : s.slices = []) : s.slice = Config.fullSlice := by
  simp [State.slice, h]

theorem takeSlice_nil {s : State} (h : s.slices = []) : s.takeSlice = s := by
  cases s; simp only at h; subst h; rfl

/-! ## The duty -/

/-- What the duty asks, by the operation's kind (R211). -/
theorem dutyKept_iff (op : Instr) (s : State) :
    dutyKept op s = true ↔
      (isLifecycle op = true → ∀ t ∈ s.pool, isLifecycle t.op = false) ∧ (needsQuiet op = true → s.pool = []) ∧
      (isNotification op = false → ∀ t ∈ s.pool, needsQuiet t.op = false) := by
  simp only [dutyKept, Bool.and_eq_true, and_assoc, Bool.or_eq_true, Bool.not_eq_true', List.all_eq_true,
    List.isEmpty_iff]
  cases isLifecycle op <;> cases needsQuiet op <;> cases isNotification op <;> simp

/-- RESUME and RELEASE are lifecycle operations. -/
theorem needsQuiet_isLifecycle {op : Instr} (h : needsQuiet op = true) : isLifecycle op = true := by
  cases op <;> first | rfl | cases h

/-- An operation that is no lifecycle operation may be started whenever no RESUME and no RELEASE is in progress. -/
theorem dutyKept_other {op : Instr} (h : isLifecycle op = false) {s : State}
    (hs : ∀ t ∈ s.pool, needsQuiet t.op = false) : dutyKept op s = true := by
  refine (dutyKept_iff op s).2 ⟨by simp [h], fun hq => ?_, fun _ => hs⟩
  simp [needsQuiet_isLifecycle hq] at h

/-- Any operation but RESUME and RELEASE may be started whenever no lifecycle operation is in progress. -/
theorem dutyKept_noLifecycle {op : Instr} (h : needsQuiet op = false) {s : State}
    (hs : ∀ t ∈ s.pool, isLifecycle t.op = false) : dutyKept op s = true := by
  refine (dutyKept_iff op s).2 ⟨fun _ => hs, by simp [h], fun _ t ht => ?_⟩
  cases hq : needsQuiet t.op with
  | false => rfl
  | true => simpa [hs t ht] using needsQuiet_isLifecycle hq

/-- With nothing in progress any operation may be started. -/
theorem dutyKept_quiet (op : Instr) {s : State} (h : s.pool = []) : dutyKept op s = true := by
  simp [dutyKept, h]

end Sys2Proof.Machine
end

