-- ==== Sys2Proof/Laws/Run.lean ====
section
/-!
SUPPORT. How an agent moves, said once: the equations of `drive`, the rule for what holds when an invocation stops
moving, and what no segment changes.
-/

namespace Sys2Proof.Machine

@[simp] theorem drive_ret (n : Nat) (op : Instr) (r : Result) (s : State) :
    drive n op (.ret r s) = .next (s.respond (some op) r) := by cases n <;> rfl

@[simp] theorem drive_fault (n : Nat) (op : Instr) (f : Fault) : drive n op (.fault f) = .fault f := by cases n <;> rfl

@[simp] theorem drive_blocked (n : Nat) (op : Instr) (pos : Pos) (s : State) :
    drive n op (.blocked pos s) = .next (s.park op pos) := by cases n <;> rfl

@[simp] theorem drive_zero (op : Instr) (pos : Pos) (s : State) :
    drive 0 op (.go pos s) = .next (s.park op pos) := rfl

@[simp] theorem drive_succ (n : Nat) (op : Instr) (pos : Pos) (s : State) :
    drive (n + 1) op (.go pos s) = drive n op (advance pos s) := rfl

/-- What a segment comes to satisfies `I` where the invocation goes on and `Q` where it returns. -/
def Seg.Sat (I : Instr → Pos → State → Prop) (Q : State → Prop) (op : Instr) : Seg → Prop
  | .go pos s => I op pos s
  | .ret r s => Q (s.respond (some op) r)
  | .blocked pos s => I op pos s
  | .fault _ => True

/-- The induction over an invocation's segments, once: if every segment keeps `I`, or ends in `Q`, and `I` gives `Q`
when the invocation is parked, then `Q` holds of the state in which it stops moving. -/
theorem drive_next {I : Instr → Pos → State → Prop} {Q : State → Prop}
    (hgo : ∀ op pos s, I op pos s → (advance pos s).Sat I Q op)
    (hpark : ∀ op pos s, I op pos s → Q (s.park op pos)) :
    ∀ (n : Nat) (op : Instr) (seg : Seg) (t : State), seg.Sat I Q op → drive n op seg = .next t → Q t := by
  intro n
  induction n with
  | zero =>
    intro op seg t hseg h
    cases seg with
    | go pos s => cases h; exact hpark _ _ _ hseg
    | ret r s => cases h; exact hseg
    | blocked pos s => cases h; exact hpark _ _ _ hseg
    | fault f => cases h
  | succ n ih =>
    intro op seg t hseg h
    cases seg with
    | go pos s => exact ih op _ t (hgo _ _ _ hseg) h
    | ret r s => cases h; exact hseg
    | blocked pos s => cases h; exact hpark _ _ _ hseg
    | fault f => cases h

/-- `drive` never refuses. -/
theorem drive_not_refused (n : Nat) (op : Instr) (seg : Seg) (r : Refusal) : drive n op seg ≠ .refused r := by
  induction n generalizing seg with
  | zero => cases seg <;> simp
  | succ n ih =>
    cases seg with
    | go pos s => exact ih _
    | ret r s => simp
    | blocked pos s => simp
    | fault f => simp

/-- An invoked operation is refused by its phase, refused by the host's duty, or runs. -/
theorem invoke_cases (op : Instr) (s : State) (first : State → Seg) :
    (legal op s.phase = false ∧ invoke op s first = .next (s.respond (some op) .refused)) ∨
    (legal op s.phase = true ∧ dutyKept op s = false ∧ invoke op s first = .refused .hostDuty) ∨
    (legal op s.phase = true ∧ dutyKept op s = true ∧
      invoke op s first = drive s.slice op (first s.takeSlice)) := by
  unfold invoke
  cases legal op s.phase <;> cases dutyKept op s <;> simp

/-- An operation that its phase and the host's duty admit runs, all its segments at once where the schedule lists
nothing. -/
theorem invoke_run {op : Instr} {s : State} {first : State → Seg} (hl : legal op s.phase = true)
    (hd : dutyKept op s = true) (hs : s.slices = []) : invoke op s first = drive 64 op (first s) := by
  simp [invoke, hl, hd, slice_nil hs, takeSlice_nil hs]

/-- A whole transfer, with the channel free and an answer listed: the frame is sent, the answer taken, and the code after
the transfer runs. -/
theorem drive_transfer (n : Nat) (op : Instr) (f : Frame) (k : After) (s : State) (a : Answer) (rest : List Answer)
    (hc : s.channelBusy = false) (ha : s.answers = a :: rest) :
    drive (n + 3) op (.go (.send f k) s) =
      drive n op (afterTransfer k (f.outcome a) { s with answers := rest, out := s.out ++ [.sent f] }) := by
  simp [advance, hc, ha, State.emit, Frame.outcome]

/-- With no handler in progress there is nothing to run. -/
@[simp] theorem runMonitor_none {s : State} (h : s.monitor = none) (n : Nat) : runMonitor n s = .next s := by
  cases n <;> simp [runMonitor, h]

/-- The handler in progress takes one segment, and goes on from there. -/
theorem runMonitor_segment {n : Nat} {s s' : State} {m : MonPos} (h : s.monitor = some m)
    (hm : monitorSegment m s = .next s') : runMonitor (n + 1) s = runMonitor n s' := by
  simp [runMonitor, h, hm]

/-- The induction over the handler's segments, once: what every segment keeps holds where the handler stops moving. -/
theorem runMonitor_next {I : State → Prop}
    (hseg : ∀ m s t, I s → s.monitor = some m → monitorSegment m s = .next t → I t) :
    ∀ (n : Nat) (s t : State), I s → runMonitor n s = .next t → I t := by
  intro n
  induction n with
  | zero => intro s t hs h; cases h; exact hs
  | succ n ih =>
    intro s t hs h
    cases hm : s.monitor with
    | none => rw [runMonitor_none hm] at h; cases h; exact hs
    | some m =>
      cases hg : monitorSegment m s with
      | next s' => rw [runMonitor_segment hm hg] at h; exact ih s' t (hseg m s s' hs hm hg) h
      | fault f => simp [runMonitor, hm, hg] at h
      | refused r => simp [runMonitor, hm, hg] at h

/-- The channel is busy or free by the operations in progress alone. -/
theorem channelBusy_congr {s t : State} (h : t.pool = s.pool) : t.channelBusy = s.channelBusy := by
  simp [State.channelBusy, h]

end Sys2Proof.Machine
end

