-- ==== Sys2Proof/Laws/Safety.lean ====
section
/-!
SUPPORT. The terms of Safety.lean tied to the operations they describe.
-/

namespace Sys2Proof.Machine

/-- With no lifecycle operation in progress the host may start any other operation. -/
theorem openToHost_of_noLifecycle {s : State} (h : ∀ t ∈ s.pool, isLifecycle t.op = false) : s.OpenToHost := by
  intro t ht
  cases hq : needsQuiet t.op with
  | false => rfl
  | true => simpa [h t ht] using needsQuiet_isLifecycle hq

/-- With nothing in progress and no schedule listed, an operation runs undisturbed. -/
theorem undisturbed_of_idle {s : State} (hs : s.slices = []) (hp : s.pool = []) : s.Undisturbed :=
  ⟨hs, by simp [State.channelBusy, hp], by rw [State.OpenToHost, hp]; exact fun _ h => nomatch h⟩

/-- `SubSubmit()` answers `State.grant`, and changes what `State.afterSubmit` says. -/
theorem submit_eq (s : State) : s.submit = (s.grant, { s.afterSubmit with out := s.out ++ [.submit] }) := by
  unfold State.submit State.grant State.afterSubmit
  cases h : s.grants <;> simp

/-- An `OUT` frame's transfer, as the result of the operation that ends with it. -/
theorem outcome_outResult {f : Frame} (h : f.dir = .toDevice) (a : Answer) :
    (∃ b, f.outcome a = .ok b ∧ a.outResult = .ok .unit) ∨
      (f.outcome a = .error .transferFailure ∧ a.outResult = .err .transferFailure) := by
  cases a with
  | ok bytes => exact .inl ⟨[], outcome_toDevice h bytes, rfl⟩
  | fail => exact .inr ⟨rfl, rfl⟩

/-- An `IN` frame's transfer, as the result of the operation that ends with it and returns the bytes. -/
theorem outcome_inResult {f : Frame} (h : f.dir = .toHost) (a : Answer) :
    (∃ b, f.outcome a = .ok b ∧ a.inResult f.length.toNat = .ok (.bytes b)) ∨
      ∃ e, f.outcome a = .error e ∧ a.inResult f.length.toNat = .err e := by
  cases a with
  | fail => exact .inr ⟨_, rfl, rfl⟩
  | ok bytes =>
    rw [outcome_toHost h]
    by_cases hl : f.length.toNat ≤ bytes.length <;> simp [Answer.inResult, hl]

/-- The transfers of a list of frames all succeed exactly when the first does and the others do. -/
theorem succeedAll_cons (f : Frame) (fs : List Frame) (as : List Answer) :
    succeedAll (f :: fs) as = true ↔ ∃ a as' b, as = a :: as' ∧ f.outcome a = .ok b ∧ succeedAll fs as' = true := by
  cases as with
  | nil => simp [succeedAll]
  | cons a as' =>
    simp only [succeedAll, Frame.succeeds, Bool.and_eq_true]
    cases h : f.outcome a with
    | ok b => simp [h]
    | error e => simp [h]

theorem succeedAll_nil (as : List Answer) : succeedAll [] as = true ↔ as = [] := by
  cases as <;> simp [succeedAll]

end Sys2Proof.Machine
end

