-- ==== Sys2Proof/Tests/Slice0.lean ====
section
/-!
SUPPORT. Tests. The expected results are those of spec/95_test_vectors.md (its section is named at each group), computed
there by hand from the rules; the parameter values are the suggested ones of 00_scope.md R6, used here and nowhere else.
The last part shows for each statement with hypotheses a state and operands that meet them.
-/

namespace Sys2Proof.Tests

open Sys2Proof.Machine

/-! ## Helpers -/

/-- The suggested parameters of R6. -/
def params : Config.Params :=
  { rtsBit := 0x40, dtrBit := 0x20, ffRxEn := 0x80, ffTxEn := 0x40, ff8N1 := 0xC3, lcrReg := 0x18, breakReg := 0x05
    breakBit := 0x01, statusSelector := 0x0706, statusQueryLen := 2, statusQueryByte := 0 }

/-- An armed port at 9600 with these line bytes. -/
def port (mc ms : Byte) : Port :=
  { ls := { baudRate := 9600, frameFormat := 0xC3, modemControl := mc, modemStatus := ms }
    cnt := { cts := 0, dsr := 0, ri := 0, dcd := 0 }, subArmed := true, stopRearm := false, monitorLost := false }

/-- The same port with no subscription outstanding. -/
def idle (mc ms : Byte) : Port := { port mc ms with subArmed := false }

/-- A state with nothing in progress. -/
def at_ (phase : Phase) (p : Option Port) (answers : List Answer) (grants : List Bool) : State :=
  { cfg := params, phase := phase, port := p, pool := [], monitor := none, inbox := [], answers := answers
    grants := grants, slices := [], asked := 0, out := [] }

/-- An active port. -/
def active (p : Port) (answers : List Answer) : State := at_ .active (some p) answers [true]

/-- The outcome is a next state with this phase, port and output. -/
def ends (o : Out) (phase : Phase) (p : Option Port) (out : List PortEvent) : Bool :=
  match o with
  | .next t => t.phase == phase && t.port == p && t.out == out
  | .fault _ => false
  | .refused _ => false

/-- An answer without bytes. -/
def done : Answer := .ok []

/-- The five frames of OPEN at 9600, 8N1, with no line raised (program P1). -/
def openFrames : List PortEvent :=
  [.sent ⟨.toHost, 0x5F, 0x0000, 0x0000, 2⟩, .sent ⟨.toDevice, 0xA1, 0x0000, 0x0000, 0⟩,
   .sent ⟨.toDevice, 0x9A, 0xB282, 0x1312, 0⟩, .sent ⟨.toDevice, 0x9A, 0x00C3, 0x2518, 0⟩,
   .sent ⟨.toDevice, 0xA4, 0x00FF, 0x0000, 0⟩]

/-- The frame of STATUS_QUERY. -/
def statusRead : PortEvent := .sent ⟨.toHost, 0x95, 0x0706, 0x0000, 2⟩

/-! ## Well-formedness -/

theorem test_readReg_too_long_is_ill_formed : (Instr.readReg 0 65536).wellFormed = false := by decide

theorem test_readReg_longest_is_well_formed : (Instr.readReg 0 65535).wellFormed = true := by decide

/-! ## Decoding: words written out from the spec (2.1, 2.6, 2.11) -/

theorem test_decode_codec :
    decodeTableWord 64 0x409A82B212130000 = some (.writeReg 0x1312 0xB282) ∧
    decodeTableWord 64 0xC095051800000200 = some (.readReg 0x1805 2) ∧
    decodeTableWord 64 0xC05F000000000200 = some .readVersion ∧
    decodeTableWord 64 0x40A1000000000000 = some .serialInit ∧
    decodeTableWord 64 0x40A49F0000000000 = some (.modemCtrl 0x60) := by decide

theorem test_decode_lifecycle :
    decodeTableWord 48 0x010000000000 = some .claim ∧
    decodeTableWord 48 0x020000000000 = some .openPort ∧
    decodeTableWord 48 0x03000E1000DB = some (.reconfigure 921600 0xDB) ∧
    decodeTableWord 48 0x040001C20000 = some (.setBaudRate 115200) ∧
    decodeTableWord 48 0x0500000000DB = some (.setFrameFormat 0xDB) ∧
    decodeTableWord 48 0x060000000000 = some .resume ∧
    decodeTableWord 48 0x070000000000 = some .release := by decide

theorem test_decode_lines_and_break :
    decodeTableWord 48 0x080000004020 = some (.setLines 0x20 0x40) ∧
    decodeTableWord 48 0x090000000000 = some .getLines ∧
    decodeTableWord 48 0x0A0000000001 = some (.raiseLines true) ∧
    decodeTableWord 48 0x0A0000000000 = some (.raiseLines false) ∧
    decodeTableWord 48 0x0B0000000000 = some .carrierPresent ∧
    decodeTableWord 48 0x0C0000000001 = some (.setBreak true) := by decide

theorem test_decode_line_programming_and_monitor :
    decodeTableWord 48 0x800000258000 = some (.synthesize 9600) ∧
    decodeTableWord 48 0x8100002580C3 = some (.programLine 9600 0xC3) ∧
    decodeTableWord 48 0x820000000000 = some .statusQuery ∧
    decodeTableWord 48 0x830000000000 = some .subscribe ∧
    decodeTableWord 48 0x840000000000 = some .unsubscribe ∧
    decodeTableWord 32 0x0800F7EE = some (.notify (.record [0x08, 0x00, 0xF7, 0xEE])) := by decide

theorem test_decode_rejects_by_name :
    decode (.cmd48 ⟨0x0D, 0⟩) = .error .unknownOp ∧ decode (.cmd48 ⟨0x00, 0⟩) = .error .unknownOp ∧
    decode (.setup8 ⟨0x40, 0xA1, 1, 0, 0, 0, 0, 0⟩) = .error .unknownFrame ∧
    decode (.setup8 ⟨0xC0, 0x9A, 0, 0, 0, 0, 0, 0⟩) = .error .unknownFrame := by decide

theorem test_unused_argument_bits_are_ignored :
    decode (.cmd48 ⟨0x0A, 0xFFFFFFFFFE⟩) = .ok (.raiseLines false) ∧
    decode (.cmd48 ⟨0x09, 0xFFFFFFFFFF⟩) = .ok .getLines := by decide

theorem test_frame_bytes :
    (writeRegFrame 0x2518 0x00C3).packet = ⟨0x40, 0x9A, 0xC3, 0x00, 0x18, 0x25, 0x00, 0x00⟩ ∧
    (readRegFrame 0x0706 1).packet = ⟨0xC0, 0x95, 0x06, 0x07, 0x00, 0x00, 0x01, 0x00⟩ ∧
    (modemCtrlFrame 0x20).packet = ⟨0x40, 0xA4, 0xDF, 0x00, 0x00, 0x00, 0x00, 0x00⟩ := by decide

/-! ## Codec (2.1) -/

theorem test_writeReg :
    ends (exec (.writeReg 0xFFFF 0xFFFF) (at_ .released none [.fail] [])) .released none
      [.sent ⟨.toDevice, 0x9A, 0xFFFF, 0xFFFF, 0⟩, .result (some (.writeReg 0xFFFF 0xFFFF)) (.err .transferFailure)]
      = true := by decide

theorem test_readReg :
    ends (exec (.readReg 0x1805 2) (active (port 0 0) [.ok [0x01, 0xC3]])) .active (some (port 0 0))
      [.sent ⟨.toHost, 0x95, 0x1805, 0x0000, 2⟩, .result (some (.readReg 0x1805 2)) (.ok (.bytes [0x01, 0xC3]))]
      = true := by decide

theorem test_readReg_length_zero :
    ends (exec (.readReg 0x0706 0) (active (port 0 0) [done])) .active (some (port 0 0))
      [.result (some (.readReg 0x0706 0)) .refused] = true := by decide

theorem test_readVersion :
    ends (exec .readVersion (active (port 0 0) [.ok [0x31]])) .active (some (port 0 0))
      [.sent ⟨.toHost, 0x5F, 0x0000, 0x0000, 2⟩, .result (some .readVersion) (.err .deviceProtocolError)] = true := by
  decide

theorem test_serialInit :
    ends (exec .serialInit (active (port 0 0) [done])) .active (some (port 0 0))
      [.sent ⟨.toDevice, 0xA1, 0x0000, 0x0000, 0⟩, .result (some .serialInit) (.ok .unit)] = true := by decide

theorem test_modemCtrl :
    ends (exec (.modemCtrl 0x40) (active (port 0 0) [done])) .active (some (port 0 0))
      [.sent ⟨.toDevice, 0xA4, 0x00BF, 0x0000, 0⟩, .result (some (.modemCtrl 0x40)) (.ok .unit)] = true := by decide

theorem test_overlong_reply_is_cut :
    ends (exec .readVersion (active (port 0 0) [.ok [0x31, 0x00, 0xFF]])) .active (some (port 0 0))
      [.sent ⟨.toHost, 0x5F, 0x0000, 0x0000, 2⟩, .result (some .readVersion) (.ok (.bytes [0x31, 0x00]))] = true := by
  decide

/-! ## Rounding division, search and synthesizer (2.2, 2.3) -/

theorem test_rdiv :
    rdiv 7 2 = 4 ∧ rdiv 6 4 = 2 ∧ rdiv 9 4 = 2 ∧ rdiv 10 4 = 3 ∧ rdiv 0 5 = 0 ∧ rdiv 12000000 960000 = 13 ∧
    rdiv 6000000 12000000 = 1 ∧ rdiv 6000000 12000001 = 0 := by decide

theorem test_candidate :
    candidate 6000000 9600 = ⟨78, 2, 8⟩ ∧ candidate 6000000 110 = ⟨106, 0, 512⟩ ∧
    candidate 12000000 82 = ⟨285, 0, 512⟩ ∧ candidate 12000000 921600 = ⟨13, 3, 1⟩ ∧
    (candidate 12000000 921600).achieved 12000000 = 923077 := by decide

theorem test_synthesize_accepted :
    synthesizeRate 46 = .ok (⟨254, 0, false⟩, 0x0280) ∧ synthesizeRate 110 = .ok (⟨213, 0, true⟩, 0x2B84) ∧
    synthesizeRate 9600 = .ok (⟨78, 2, false⟩, 0xB282) ∧ synthesizeRate 32000 = .ok (⟨188, 3, false⟩, 0x4483) ∧
    synthesizeRate 921600 = .ok (⟨13, 3, true⟩, 0xF387) ∧ synthesizeRate 1714286 = .ok (⟨3, 3, false⟩, 0xFD83) ∧
    synthesizeRate 4000000 = .ok (⟨2, 3, false⟩, 0xFE83) := by decide

/-- The rate is rejected. -/
def rejects (b : U32) : Bool :=
  match synthesizeRate b with
  | .error .invalidBaudRate => true
  | _ => false

theorem test_synthesize_rejected :
    rejects 0 && rejects 1 && rejects 45 && rejects 82 && rejects 85 && rejects 91 && rejects 4000001 &&
      rejects 12000000 && rejects 12000001 && rejects 4294967295 = true := by decide

theorem test_execSynthesize :
    ends (exec (.synthesize 115200) (at_ .released none [] [])) .released none
      [.result (some (.synthesize 115200)) (.ok (.plan ⟨52, 3, false⟩ 0xCC83))] = true := by decide

/-! ## PROGRAM_LINE (2.4) -/

theorem test_programLine_sends_the_byte_as_given :
    ends (exec (.programLine 9600 0x03) (active (port 0 0) [done, done])) .active (some (port 0 0))
      [.sent ⟨.toDevice, 0x9A, 0xB282, 0x1312, 0⟩, .sent ⟨.toDevice, 0x9A, 0x0003, 0x2518, 0⟩,
       .result (some (.programLine 9600 0x03)) (.ok .unit)] = true := by decide

theorem test_programLine_rejected :
    ends (exec (.programLine 82 0xC3) (active (port 0 0) [done, done])) .active (some (port 0 0))
      [.result (some (.programLine 82 0xC3)) (.err .invalidBaudRate)] = true := by decide

/-! ## Modem lines (2.5) -/

theorem test_setLines_or_before_and :
    ends (exec (.setLines 0x60 0x60) (active (port 0x20 0) [done])) .active (some (port 0x00 0))
      [.sent ⟨.toDevice, 0xA4, 0x00FF, 0x0000, 0⟩, .result (some (.setLines 0x60 0x60)) (.ok .unit)] = true := by
  decide

theorem test_setLines_masks_and_keeps_on_failure :
    ends (exec (.setLines 0xFF 0x20) (active (port 0 0) [.fail])) .active (some (port 0x40 0))
      [.sent ⟨.toDevice, 0xA4, 0x00BF, 0x0000, 0⟩, .result (some (.setLines 0xFF 0x20)) (.err .transferFailure)]
      = true := by decide

theorem test_raiseLines :
    ends (exec (.raiseLines true) (active (port 0 0) [done])) .active (some (port 0x60 0))
      [.sent ⟨.toDevice, 0xA4, 0x009F, 0x0000, 0⟩, .result (some (.raiseLines true)) (.ok .unit)] = true := by decide

theorem test_lowerLines :
    ends (exec (.raiseLines false) (active (port 0x40 0) [done])) .active (some (port 0x00 0))
      [.sent ⟨.toDevice, 0xA4, 0x00FF, 0x0000, 0⟩, .result (some (.raiseLines false)) (.ok .unit)] = true := by decide

theorem test_getLines :
    ends (exec .getLines (active (port 0x20 0x06) [])) .active (some (port 0x20 0x06))
      [.result (some .getLines) (.ok (.lines ⟨false, true, false, true, true, false⟩))] = true := by decide

theorem test_carrierPresent :
    ends (exec .carrierPresent (active (port 0 0x07) [])) .active (some (port 0 0x07))
      [.result (some .carrierPresent) (.ok (.flag false))] = true := by decide

theorem test_statusQuery :
    ends (exec .statusQuery (active (port 0 0x09) [.ok [0xF6, 0xFF]])) .active (some (port 0 0x09))
      [statusRead, .result (some .statusQuery) (.ok .unit)] = true ∧
    ends (exec .statusQuery (active (port 0 0x09) [.ok [0xFF, 0x00]])) .active (some (port 0 0x00))
      [statusRead, .result (some .statusQuery) (.ok .unit)] = true := by decide

theorem test_statusQuery_short_reply :
    ends (exec .statusQuery (active (port 0 0x05) [.ok [0xF6]])) .active (some (port 0 0x05))
      [statusRead, .result (some .statusQuery) (.err .deviceProtocolError)] = true := by decide

/-! ## Status monitor (2.6, 2.7) -/

theorem test_notify :
    ends (exec (.notify (.record [0x00, 0x00, 0xF5, 0x00])) (active (port 0 0x05) [])) .active
      (some { port 0 0x0A with cnt := ⟨1, 1, 1, 1⟩ }) [.carrierChange true, .submit] = true := by decide

theorem test_notify_short_is_discarded_and_rearmed :
    ends (exec (.notify (.record [0x00, 0x00, 0xF6])) (at_ .active (some (port 0 0x09)) [] [false])) .active
      (some { idle 0 0x09 with monitorLost := true }) [.submit, .monitorLost] = true := by decide

theorem test_subscribe_refused :
    ends (exec .subscribe (at_ .active (some { idle 0 0 with stopRearm := true }) [] [false])) .active
      (some { idle 0 0 with stopRearm := true }) [.submit, .result (some .subscribe) (.err .transferFailure)] = true := by
  decide

theorem test_subscribe_clears_the_flags :
    ends (exec .subscribe (at_ .active (some { idle 0 0 with stopRearm := true, monitorLost := true }) [] [true]))
      .active (some (port 0 0)) [.submit, .result (some .subscribe) (.ok .unit)] = true := by decide

theorem test_unsubscribe :
    ends (exec .unsubscribe (active (port 0 0) [])) .active (some { idle 0 0 with stopRearm := true })
      [.cancel, .result (some .unsubscribe) (.ok .unit)] = true := by decide

/-! ## Break (2.8) -/

theorem test_setBreak_true :
    ends (exec (.setBreak true) (active (port 0 0) [.ok [0xFF, 0xFF], done])) .active (some (port 0 0))
      [.sent ⟨.toHost, 0x95, 0x1805, 0x0000, 2⟩, .sent ⟨.toDevice, 0x9A, 0xBFFE, 0x1805, 0⟩,
       .result (some (.setBreak true)) (.ok .unit)] = true := by decide

theorem test_setBreak_false :
    ends (exec (.setBreak false) (active (port 0 0) [.ok [0x00, 0x00], done])) .active (some (port 0 0))
      [.sent ⟨.toHost, 0x95, 0x1805, 0x0000, 2⟩, .sent ⟨.toDevice, 0x9A, 0x4001, 0x1805, 0⟩,
       .result (some (.setBreak false)) (.ok .unit)] = true := by decide

/-! ## Lifecycle (2.9, 2.10, P1, P2, P3, P6) -/

theorem test_claim :
    ends (exec .claim (at_ .released none [] [])) .unconfigured (some (idle 0 0))
      [.result (some .claim) (.ok .unit)] = true := by decide

theorem test_open :
    ends (exec .openPort (at_ .unconfigured (some (idle 0 0))
        [.ok [0x31, 0x00], done, done, done, done, .ok [0xF6, 0x00]] [true])) .active (some (port 0 0x09))
      (openFrames ++ [.submit, statusRead, .result (some .openPort) (.ok .unit)]) = true := by decide

theorem test_open_seed_fails :
    ends (exec .openPort (at_ .unconfigured (some (idle 0 0))
        [.ok [0x31, 0x00], done, done, done, done, .fail] [true])) .unconfigured
      (some { idle 0 0 with stopRearm := true })
      (openFrames ++ [.submit, statusRead, .cancel, .result (some .openPort) (.err .transferFailure)]) = true := by
  decide

theorem test_reconfigure_second_write_fails :
    ends (exec (.reconfigure 921600 0x1B) (active (port 0 0) [done, .fail])) .active (some (port 0 0))
      [.sent ⟨.toDevice, 0x9A, 0xF387, 0x1312, 0⟩, .sent ⟨.toDevice, 0x9A, 0x00DB, 0x2518, 0⟩,
       .result (some (.reconfigure 921600 0x1B)) (.err .transferFailure)] = true := by decide

theorem test_setBaudRate :
    ends (exec (.setBaudRate 115200) (active (port 0x60 0) [done, done])) .active
      (some { port 0x60 0 with ls := ⟨115200, 0xC3, 0x60, 0⟩ })
      [.sent ⟨.toDevice, 0x9A, 0xCC83, 0x1312, 0⟩, .sent ⟨.toDevice, 0x9A, 0x00C3, 0x2518, 0⟩,
       .result (some (.setBaudRate 115200)) (.ok .unit)] = true := by decide

theorem test_setFrameFormat :
    ends (exec (.setFrameFormat 0x1B) (active (port 0 0) [done, done])) .active
      (some { port 0 0 with ls := ⟨9600, 0xDB, 0, 0⟩ })
      [.sent ⟨.toDevice, 0x9A, 0xB282, 0x1312, 0⟩, .sent ⟨.toDevice, 0x9A, 0x00DB, 0x2518, 0⟩,
       .result (some (.setFrameFormat 0x1B)) (.ok .unit)] = true := by decide

theorem test_resume_with_the_monitor_refused :
    ends (exec .resume (at_ .active (some (port 0 0x08))
        [.ok [0x31, 0x00], done, done, done, done, .ok [0xFE, 0x00]] [false])) .active
      (some { idle 0 0x01 with stopRearm := true, monitorLost := true })
      (.cancel :: openFrames ++ [.submit, .monitorLost, statusRead, .result (some .resume) (.ok .unit)]) = true := by
  decide

theorem test_resume_unconfigured :
    ends (exec .resume (at_ .unconfigured (some (idle 0 0)) [.ok [0x31, 0x00], done, done, done, done] [])) .unconfigured
      (some { idle 0 0 with stopRearm := true }) (openFrames ++ [.result (some .resume) (.ok .unit)]) = true := by decide

theorem test_release :
    ends (exec .release (active (port 0 0) [])) .released none [.cancel, .result (some .release) (.ok .unit)] = true := by
  decide

/-! ## The machine after reset -/

theorem test_reset_is_idle : step State.reset = .next State.reset := rfl

theorem test_a_word_runs_from_reset :
    step (State.reset.withFetchWord 48 0x090000000000) = exec .getLines State.reset := rfl

theorem test_a_notification_runs_from_reset :
    ∃ t, step (State.reset.withFetchWord 32 0x0800F7EE) = .next t ∧ t.monitor = none := ⟨_, rfl, rfl⟩

/-! ## Interleavings (part 4) -/

/-- I1: the two pushes go out in the other order. -/
theorem test_interleaving_I1 :
    ends (Host.Core.run Sys2Proof.core 4 { active (port 0 0) [done, done] with
        slices := [0, 0]
        inbox := [.call (.cmd48 ⟨0x08, 0x40⟩), .call (.cmd48 ⟨0x08, 0x20⟩), .proceed 1, .proceed 0] })
      .active (some (port 0x60 0))
      [.sent ⟨.toDevice, 0xA4, 0x009F, 0, 0⟩, .result (some (.setLines 0x20 0)) (.ok .unit),
       .sent ⟨.toDevice, 0xA4, 0x00BF, 0, 0⟩, .result (some (.setLines 0x40 0)) (.ok .unit)] = true := by decide

/-- I3: RECONFIGURE runs between the read and the write of SET_BREAK. -/
theorem test_interleaving_I3 :
    ends (Host.Core.run Sys2Proof.core 3 { active (port 0 0) [.ok [0x01, 0xC3], done, done, done] with
        slices := [3]
        inbox := [.call (.cmd48 ⟨0x0C, 1⟩), .call (encode (.reconfigure 9600 0xDB)), .proceed 0] })
      .active (some { port 0 0 with ls := ⟨9600, 0xDB, 0, 0⟩ })
      [.sent ⟨.toHost, 0x95, 0x1805, 0, 2⟩, .sent ⟨.toDevice, 0x9A, 0xB282, 0x1312, 0⟩,
       .sent ⟨.toDevice, 0x9A, 0x00DB, 0x2518, 0⟩, .result (some (.reconfigure 9600 0xDB)) (.ok .unit),
       .sent ⟨.toDevice, 0x9A, 0x8300, 0x1805, 0⟩, .result (some (.setBreak true)) (.ok .unit)] = true := by decide

/-- I4 (a): RELEASE while a handler is in progress; nothing is submitted afterwards. -/
theorem test_interleaving_I4 :
    ends (Host.Core.run Sys2Proof.core 4 { active (port 0 0) [] with
        slices := [0]
        inbox := [.call (.notify4 (.record [0x00, 0x00, 0xF7, 0x00])), .call (.cmd48 ⟨0x07, 0⟩)] })
      .released none [.carrierChange true, .result (some .release) (.ok .unit)] = true := by decide

/-! ## The hypotheses of the statements can be met: a state and operands for each, and for each clause -/

/-- The answers of a bring-up in which every transfer succeeds. -/
def bringUp : List Answer := [.ok [0x31, 0x00], done, done, done, done]

/-- The frames of CONFIGURE for the port at 9600, 8N1. -/
def frames : List Frame := bringUpFrames 0xB282 0xC3 0x00

/-- An invocation of MODEM_CTRL whose frame is on the channel. -/
def waiting : Task := ⟨.modemCtrl 0x60, .await (modemCtrlFrame 0x60) .ret⟩

/-- A STATUS_QUERY of the host's whose reply has come and is not stored yet. -/
def storing : Task := ⟨.statusQuery, .answered (statusFrame params) (.ok [0xF6, 0x00]) (.query .direct)⟩

theorem witness_DecodeEncodeAgree :
    (Instr.readReg 0x1805 65535).wellFormed = true ∧ (Instr.readReg 0 0).wellFormed = true ∧
    (Instr.setLines 0xFF 0xFF).wellFormed = true := by decide

theorem witness_EncodeDecodeAgree :
    decode (.setup8 ⟨0xC0, 0x95, 0xFF, 0xFF, 0, 0, 0xFF, 0xFF⟩) = .ok (.readReg 0xFFFF 65535) ∧
    decode (.cmd48 ⟨0x08, 0xFFFFFFFFFF⟩) = .ok (.setLines 0xFF 0xFF) ∧
    encode (.setLines 0xFF 0xFF) = .cmd48 ⟨0x08, 0xFFFF⟩ := by decide

theorem witness_StepRunsDecoded :
    let s := { active (port 0 0) [] with inbox := [.call (.cmd48 ⟨0x09, 0⟩), .proceed 0] }
    s.inbox = .call (.cmd48 ⟨0x09, 0⟩) :: [.proceed 0] ∧ decode (.cmd48 ⟨0x09, 0⟩) = .ok .getLines ∧
      Instr.getLines.wellFormed = true := by decide

theorem witness_RefusedChangesNothing :
    (at_ .active (some (port 0 0)) [] []).phase ≠ .released ∧ (at_ .active (some (port 0 0)) [] []).phase ≠ .unconfigured ∧
    (at_ .unconfigured (some (idle 0 0)) [] []).phase ≠ .active ∧
    (at_ .reconfiguring (some (port 0 0)) [] []).phase ≠ .unconfigured ∧
    (at_ .reconfiguring (some (port 0 0)) [] []).phase ≠ .active ∧
    (at_ .released none [] []).phase = .released ∧ 65535 < 65536 ∧
    (0x00 : Byte) ∉ ([0x01, 0x02, 0x03, 0x04, 0x05, 0x06, 0x07, 0x08, 0x09, 0x0A, 0x0B, 0x0C,
      0x80, 0x81, 0x82, 0x83, 0x84] : List Byte) ∧
    { at_ .active (some (port 0 0)) [] [] with inbox := [.call (.cmd48 ⟨0, 0⟩)] }.inbox =
      .call (.cmd48 ⟨0, 0⟩) :: [] := by decide

theorem witness_NoPortIsRefused : (at_ .released none [] []).port = none := by decide

theorem witness_OnlyBrokenDutyIsRefused :
    exec .release { active (port 0 0) [] with pool := [waiting] } = .refused .hostDuty ∧
    exec .openPort { at_ .unconfigured (some (idle 0 0)) [] [] with pool := [⟨.release, .releaseWait⟩] } =
      .refused .hostDuty ∧
    exec .statusQuery { active (idle 0 0) [] with pool := [⟨.release, .releaseWait⟩] } = .refused .hostDuty ∧
    ∃ t, exec (.notify .failed) { active (port 0 0) [] with pool := [⟨.resume, .reportLost⟩] } = .next t :=
  ⟨rfl, rfl, rfl, _, rfl⟩

theorem witness_OutOperationsComplete :
    let s := at_ .released none [.fail, done] []
    s.Undisturbed ∧ s.answers = .fail :: [done] := by decide

theorem witness_InOperationsComplete :
    let s := active (port 0 0) [.ok [0x01]]
    1 ≤ 1 ∧ 1 ≤ 65535 ∧ 65535 ≤ 65535 ∧ s.Undisturbed ∧ s.answers = .ok [0x01] :: [] := by decide

theorem witness_TransferWaits :
    let back := { active (port 0 0) [] with inbox := [.proceed 1] }
    let sends : Task := ⟨.modemCtrl 0x60, .send (modemCtrlFrame 0x60) .ret⟩
    let busy := { back with pool := [waiting, sends] }
    let free := { back with pool := [storing, sends], slices := [0], answers := [done] }
    let waits := { back with pool := [storing, waiting] }
    (busy.inbox = .proceed 1 :: [] ∧ busy.pool[1]? = some sends ∧ busy.channelBusy = true) ∧
    (free.pool[1]? = some sends ∧ free.channelBusy = false ∧ free.slices.head? = some 0) ∧
    (waits.pool[1]? = some waiting ∧ waits.answers = []) ∧
    ({ waits with answers := [done], slices := [0] }.answers = done :: [] ∧ [0].head? = some 0) ∧
    (statusFrame params).reply (.ok [0xF6, 0x00, 0x01]) = .ok [0xF6, 0x00] := by decide

/-- The clauses of TransferWaits about MODEM_CTRL. -/
theorem witness_TransferWaits_of_MODEM_CTRL :
    let busy := { active (port 0 0) [] with pool := [waiting] }
    let free := active (port 0 0) []
    let back := { active (port 0 0) [done] with pool := [waiting], inbox := [.proceed 0] }
    (busy.slices = [] ∧ busy.channelBusy = true ∧ busy.OpenToHost) ∧
    (free.slices = [] ∧ free.channelBusy = false ∧ free.OpenToHost ∧ free.answers = []) ∧
    (back.slices = [] ∧ back.inbox = .proceed 0 :: [] ∧
      back.pool = [⟨.modemCtrl 0x60, .await (modemCtrlFrame 0x60) .ret⟩] ∧ back.answers = done :: []) := by decide

theorem witness_ReadersTouchNoState :
    (∃ t, exec (.setBreak true) (active (port 0 0) [.ok [0x01, 0xC3]]) = .next t) ∧
    waiting.pos.isLife = false ∧ waiting.pos.storesStatus = false ∧
    ∃ t, (advance waiting.pos (active (port 0 0) [done])).state = some t := ⟨⟨_, rfl⟩, rfl, rfl, _, rfl⟩

theorem witness_CandidateSearch : (1 : Nat) ≤ 1 ∧ (1 : Nat) ≤ 4294967295 := by decide

theorem witness_FactorZeroRejected :
    (0x00B71B01 : U32) ≠ 0 ∧ (candidate 6000000 12000001).factor = 0 ∧ (candidate 6000000 12000000).factor ≠ 0 := by
  decide

theorem witness_synthesis :
    synthesizeRate 921600 = .ok (⟨13, 3, true⟩, 0xF387) ∧ synthesizeRate 9600 = .ok (⟨78, 2, false⟩, 0xB282) ∧
    synthesizeRate 82 = .error .invalidBaudRate := by decide

/-- The statements that ask only for the host's duty: another operation may be in progress. -/
theorem witness_OpenToHost :
    let s := { active (port 0 0) [] with pool := [waiting] }
    s.OpenToHost ∧ State.OpenToHost (at_ .released none [] []) ∧ s.port = some (port 0 0) := by decide

theorem witness_ProgramLineCompletes :
    let s := active (port 0 0) [.fail, done]
    let t := active (port 0 0) [done, .fail]
    s.Undisturbed ∧ s.answers = .fail :: [done] ∧ t.Undisturbed ∧ t.answers = .ok [] :: .fail :: [] := by decide

theorem witness_SetLinesCompletes :
    let s := at_ .reconfiguring (some (port 0x20 0)) [.fail] []
    s.Undisturbed ∧ (s.phase = .active ∨ s.phase = .reconfiguring) ∧ s.port = some (port 0x20 0) ∧
      s.answers = .fail :: [] := by decide

theorem witness_SetLinesIdempotent :
    let s := active (port 0x60 0) []
    s.OpenToHost ∧ (s.phase = .active ∨ s.phase = .reconfiguring) ∧ s.port = some (port 0x60 0) ∧
      ((0x40 : Byte) &&& (s.cfg.rtsBit ||| s.cfg.dtrBit)) &&& ~~~(port 0x60 0).ls.modemControl = 0 := by decide

theorem witness_RaiseLinesCompletes :
    let s := active (port 0x40 0) [done]
    s.Undisturbed ∧ (s.phase = .active ∨ s.phase = .reconfiguring) ∧ s.port = some (port 0x40 0) ∧
      s.answers = done :: [] ∧ (port 0x40 0).ls.modemControl &&& ~~~(s.cfg.rtsBit ||| s.cfg.dtrBit) = 0 := by decide

theorem witness_GetLinesCompletes_and_CarrierPresentCompletes :
    let s := at_ .unconfigured (some (idle 0 0)) [] []
    s.OpenToHost ∧ s.phase ≠ .released ∧ s.port = some (idle 0 0) := by decide

theorem params_ok : params.Ok := by decide

theorem witness_StatusQueryCompletes :
    let s (a : Answer) := active (port 0 0x09) [a]
    (∀ a, (s a).Undisturbed) ∧ (∀ a, (s a).cfg.Ok ∧ (s a).port = some (port 0 0x09) ∧ (s a).answers = a :: []) ∧
    [0xF6#8, 0x00#8].length = params.statusQueryLen ∧ [0xF6#8, 0x00#8][params.statusQueryByte]? = some 0xF6#8 ∧
    [0xF6#8].length < params.statusQueryLen :=
  ⟨fun _ => undisturbed_of_idle rfl rfl, fun _ => ⟨params_ok, rfl, rfl⟩, rfl, rfl, by decide⟩

theorem witness_SetBreakCompletes :
    let s (as : List Answer) := active (port 0 0) as
    (∀ as, (s as).Undisturbed ∧ ((s as).phase = .active ∨ (s as).phase = .reconfiguring)) ∧
    (s [.ok [0x01, 0xC3], .fail]).answers = .ok [0x01, 0xC3] :: .fail :: [] ∧
    (s [.ok [0x01]]).answers = .ok [0x01] :: [] ∧ [0x01#8].length < 2 ∧ (s [.fail]).answers = .fail :: [] :=
  ⟨fun _ => ⟨undisturbed_of_idle rfl rfl, .inl rfl⟩, rfl, rfl, by decide, rfl⟩

theorem witness_BreakRoundTrip :
    let s := active (port 0 0) [.ok [0x01, 0xC3], done, .ok [0x00, 0x83], done]
    s.Undisturbed ∧ (s.phase = .active ∨ s.phase = .reconfiguring) ∧
      s.answers = [.ok [0x01, 0xC3], .ok [], .ok [0x01 &&& ~~~s.cfg.breakBit, 0xC3 &&& ~~~s.cfg.ffTxEn], .ok []] ++ [] ∧
      (0x01 : Byte) &&& s.cfg.breakBit = s.cfg.breakBit ∧ (0xC3 : Byte) &&& s.cfg.ffTxEn = s.cfg.ffTxEn := by decide

theorem witness_NotifyCompletes :
    let s := active (port 0 0) []
    s.slices = [] ∧ s.monitor = none ∧ s.port = some (port 0 0) ∧ (port 0 0).subArmed = true := by decide

theorem witness_MalformedNotifyOnlyRearms :
    let s := active (port 0 0) []
    [0#8, 0#8, 0xF6#8].length < 4 ∧ s.slices = [] ∧ s.monitor = none ∧ s.port = some (port 0 0) ∧
      (port 0 0).subArmed = true := by decide

theorem witness_NothingDeliveredUnarmed :
    { active (port 0 0) [] with monitor := some .rearm }.monitor ≠ none ∧ (at_ .released none [] []).port = none ∧
    (active (idle 0 0) []).port = some (idle 0 0) ∧ (idle 0 0).subArmed = false ∧
    ∃ t, exec .unsubscribe (active (port 0 0) []) = .next t :=
  ⟨by decide, rfl, rfl, rfl, _, rfl⟩

theorem witness_OnlyStatusNibbleMatters :
    let s := active (port 0 0) []
    s.slices = [] ∧ (0x0E : Byte) &&& 0x0F = (0xFE : Byte) &&& 0x0F ∧ s.monitor = none ∧ s.port = some (port 0 0) ∧
      (port 0 0).subArmed = true := by decide

theorem witness_StatusDeltaLaw :
    let ds : List Delivery := [.record [0, 0, 0xF7, 0], .failed, .record [0, 0, 0xF6], .record [0, 4, 0x0F, 0, 0x55]]
    let s := at_ .active (some (port 0 0)) [] (List.replicate 4 true)
    s.slices = [] ∧ s.monitor = none ∧ s.port = some (port 0 0) ∧ (port 0 0).subArmed = true ∧
      (port 0 0).stopRearm = false ∧ s.grants = List.replicate ds.length true ++ [] := by decide

theorem witness_MonitorLeavesCommandAgentAlone :
    (∃ t, exec (.notify .failed) (active (port 0 0) []) = .next t) ∧
    (∃ t, proceedMonitor { active (idle 0 0) [] with monitor := some (.count 0x08 0x08) } = .next t) :=
  ⟨⟨_, rfl⟩, _, rfl⟩

theorem witness_RearmOnlyWhenDue :
    let p := { idle 0 0 with stopRearm := true }
    let s := { active p [] with monitor := some .rearm }
    let armed := { active (port 0 0) [] with monitor := some .rearm }
    let due := { at_ .active (some (idle 0 0)) [] [false] with monitor := some .rearm }
    (s.monitor = some .rearm ∧ s.port = some p ∧ p.stopRearm = true ∧ ∃ t, proceedMonitor s = .next t) ∧
    (armed.port = some (port 0 0) ∧ (port 0 0).stopRearm = false ∧ (port 0 0).subArmed = true) ∧
    (due.port = some (idle 0 0) ∧ (idle 0 0).stopRearm = false ∧ (idle 0 0).subArmed = false) :=
  ⟨⟨rfl, rfl, rfl, _, rfl⟩, ⟨rfl, rfl, rfl⟩, rfl, rfl, rfl⟩

theorem witness_SubscribeAndUnsubscribeComplete :
    (active (port 0 0) []).OpenToHost ∧ (active (port 0 0) []).port = some (port 0 0) ∧ (port 0 0).subArmed = true ∧
    (active (idle 0 0) []).port = some (idle 0 0) ∧ (idle 0 0).subArmed = false ∧ (active (idle 0 0) []).grant = true ∧
    (at_ .active (some (idle 0 0)) [] [false]).grant = false := by decide

theorem witness_ClaimCompletes :
    let s := { at_ .released none [] [] with pool := [storing] }
    s.phase = .released ∧ (∀ t ∈ s.pool, isLifecycle t.op = false) ∧ (active (port 0 0) []).phase ≠ .released := by decide

/-- What the statements about OPEN ask of the state, with these answers and this answer of the subscription service. -/
theorem witness_open (p : Port) (as : List Answer) (gs : List Bool) :
    let s := at_ .unconfigured (some p) as gs
    s.Undisturbed ∧ s.cfg.Ok ∧ s.phase = .unconfigured ∧ (∀ t ∈ s.pool, isLifecycle t.op = false) ∧ s.port = some p ∧
      s.answers = as := ⟨undisturbed_of_idle rfl rfl, params_ok, rfl, (fun _ h => nomatch h), rfl, rfl⟩

theorem witness_OpenCompletes :
    let s := at_ .unconfigured (some (idle 0 0)) (bringUp ++ .ok [0xF6, 0x00] :: []) [true]
    s.Undisturbed ∧ s.cfg.Ok ∧ s.phase = .unconfigured ∧ (∀ t ∈ s.pool, isLifecycle t.op = false) ∧
      s.port = some (idle 0 0) ∧ synthesizeRate (idle 0 0).ls.baudRate = .ok (⟨78, 2, false⟩, 0xB282) ∧
      succeedAll (bringUpFrames 0xB282 (idle 0 0).ls.frameFormat (idle 0 0).ls.modemControl) bringUp = true ∧
      s.answers = bringUp ++ .ok [0xF6, 0x00] :: [] ∧ [0xF6#8, 0x00#8].length = s.cfg.statusQueryLen ∧
      [0xF6#8, 0x00#8][s.cfg.statusQueryByte]? = some 0xF6#8 ∧ ((idle 0 0).subArmed = true ∨ s.grant = true) := by decide

theorem witness_OpenFailsInConfigure :
    let slow := { idle 0 0 with ls := { (idle 0 0).ls with baudRate := 82 } }
    synthesizeRate slow.ls.baudRate = .error .invalidBaudRate ∧
    succeedAll [⟨.toHost, 0x5F, 0, 0, 2⟩, ⟨.toDevice, 0xA1, 0, 0, 0⟩] [.ok [0x31, 0x00], done] = true ∧
    synthesizeRate (idle 0 0).ls.baudRate = .ok (⟨78, 2, false⟩, 0xB282) ∧
    frames = [] ++ ⟨.toHost, 0x5F, 0, 0, 2⟩ :: frames.drop 1 ∧ succeedAll [] [] = true ∧
    Frame.outcome ⟨.toHost, 0x5F, 0, 0, 2⟩ (.ok [0x31]) = .error .deviceProtocolError ∧
    frames = frames.take 4 ++ ⟨.toDevice, 0xA4, 0x00FF, 0, 0⟩ :: [] ∧
    succeedAll (frames.take 4) [.ok [0x31, 0x00], done, done, done] = true ∧
    Frame.outcome ⟨.toDevice, 0xA4, 0x00FF, 0, 0⟩ .fail = .error .transferFailure := by decide

theorem witness_OpenFailsInActivate :
    (idle 0 0).subArmed = false ∧ (port 0 0).subArmed = true ∧
    synthesizeRate (idle 0 0).ls.baudRate = .ok (⟨78, 2, false⟩, 0xB282) ∧
    succeedAll frames bringUp = true ∧ (at_ .unconfigured (some (idle 0 0)) (bringUp ++ []) [false]).grant = false ∧
    (at_ .unconfigured (some (idle 0 0)) (bringUp ++ [.ok [0xF6]]) [true]).grant = true ∧
    [0xF6#8].length < params.statusQueryLen := by decide

theorem witness_ReconfigureCompletes :
    let s := active (port 0 0) [done, done]
    s.Undisturbed ∧ s.phase = .active ∧ (∀ t ∈ s.pool, isLifecycle t.op = false) ∧ s.port = some (port 0 0) ∧
      synthesizeRate 921600 = .ok (⟨13, 3, true⟩, 0xF387) ∧
      synthesizeRate (port 0 0).ls.baudRate = .ok (⟨78, 2, false⟩, 0xB282) ∧ s.answers = .ok [] :: .ok [] :: [] := by
  decide

theorem witness_ReconfigureRollsBack :
    let s := active (port 0 0) [.fail]
    let t := active (port 0 0) [done, .fail]
    s.Undisturbed ∧ s.phase = .active ∧ (∀ t ∈ s.pool, isLifecycle t.op = false) ∧ s.port = some (port 0 0) ∧
      synthesizeRate 82 = .error .invalidBaudRate ∧ s.answers = .fail :: [] ∧ t.answers = .ok [] :: .fail :: [] := by
  decide

theorem witness_ResumeRestoresActive :
    let s := at_ .active (some (port 0 0x08)) (bringUp ++ .ok [0xFE, 0x00] :: []) [false]
    s.Undisturbed ∧ s.cfg.Ok ∧ s.phase = .active ∧ s.pool = [] ∧ s.port = some (port 0 0x08) ∧
      synthesizeRate (port 0 0x08).ls.baudRate = .ok (⟨78, 2, false⟩, 0xB282) ∧
      succeedAll (bringUpFrames 0xB282 (port 0 0x08).ls.frameFormat (port 0 0x08).ls.modemControl) bringUp = true ∧
      s.answers = bringUp ++ .ok [0xFE, 0x00] :: [] ∧ [0xFE#8, 0x00#8].length = s.cfg.statusQueryLen ∧
      [0xFE#8, 0x00#8][s.cfg.statusQueryByte]? = some 0xFE#8 := by decide

theorem witness_ResumeKeepsUnconfigured :
    let s := at_ .unconfigured (some (idle 0 0)) (bringUp ++ []) []
    s.Undisturbed ∧ s.phase = .unconfigured ∧ s.pool = [] ∧ s.port = some (idle 0 0) ∧
      succeedAll frames bringUp = true ∧ s.answers = bringUp ++ [] := by decide

theorem witness_ResumeFails :
    let s := at_ .unconfigured (some (idle 0 0)) ([] ++ .fail :: []) []
    let t := at_ .active (some (port 0 0)) (bringUp ++ .ok [0xFE] :: []) [false]
    s.Undisturbed ∧ (s.phase = .active ∨ s.phase = .unconfigured) ∧ s.pool = [] ∧ s.answers = [] ++ .fail :: [] ∧
    frames = [] ++ ⟨.toHost, 0x5F, 0, 0, 2⟩ :: frames.drop 1 ∧
    Frame.outcome ⟨.toHost, 0x5F, 0, 0, 2⟩ .fail = .error .transferFailure ∧
    t.Undisturbed ∧ t.phase = .active ∧ t.pool = [] ∧ t.answers = bringUp ++ .ok [0xFE] :: [] ∧
    [0xFE#8].length < t.cfg.statusQueryLen := by decide

/-- The clause of ResumeFails about a rejected stored rate. -/
theorem witness_ResumeFails_at_a_rejected_rate :
    let slow := { port 0 0 with ls := { (port 0 0).ls with baudRate := 82 } }
    let s := at_ .active (some slow) ([.ok [0x31, 0x00], done] ++ []) []
    s.Undisturbed ∧ s.phase = .active ∧ s.pool = [] ∧ s.port = some slow ∧
    synthesizeRate slow.ls.baudRate = .error .invalidBaudRate ∧
    succeedAll [⟨.toHost, 0x5F, 0, 0, 2⟩, ⟨.toDevice, 0xA1, 0, 0, 0⟩] [.ok [0x31, 0x00], done] = true ∧
    s.answers = [.ok [0x31, 0x00], done] ++ [] := by decide

theorem witness_ReleaseCompletes :
    let s := active (port 0 0) []
    let handling := { active (idle 0 0) [] with monitor := some .rearm }
    let waits := { active (idle 0 0) [] with pool := [⟨.release, .releaseWait⟩] }
    (s.slices = [] ∧ s.phase = .active ∧ s.pool = [] ∧ s.monitor = none) ∧
    (handling.slices = [] ∧ handling.pool = [] ∧ handling.monitor ≠ none) ∧
    (waits.slices = [] ∧ waits.pool = [⟨.release, .releaseWait⟩] ∧ waits.monitor = none ∧ waits.inbox = []) := by decide

/-- The invariant holds in an active port with an invocation in progress and a notification being handled. -/
theorem witness_Inv : State.Inv { active (idle 0x40 0x08) [done] with pool := [waiting], monitor := some .rearm } where
  params := params_ok
  exists_iff := by decide
  legal := by intro p h; cases h; decide
  handled := by decide
  kinds := by decide
  oneLifecycle := by decide
  fits := by decide
  passing := by decide
  oneTransfer := by decide
  enabled := by decide
  alone := by decide
  releasing := by decide
  noLateQuery := by decide
  replies := by decide

theorem witness_StepKeepsInvariant_and_CountersNeverGoDown :
    ∃ t q, step { active (idle 0x40 0x08) [done] with pool := [waiting], monitor := some .rearm } = .next t ∧
      t.port = some q := ⟨_, _, rfl, rfl⟩

theorem witness_SegmentsFollowPhaseMachine :
    let s := at_ .probing (some (idle 0 0)) [] []
    let pos : Pos := .answered readVersionFrame (.ok [0x31, 0x00]) (.version .openPort)
    (pos.isLife = true ∧ pos.fits s.phase = true ∧ ∃ t, (advance pos s).state = some t ∧ t.phase = .initialized) ∧
    ∃ t, exec .openPort { at_ .unconfigured (some (idle 0 0)) [] [] with slices := 0 :: [] } = .next t ∧
      t.phase = .probing := ⟨⟨rfl, rfl, _, rfl, rfl⟩, _, rfl, rfl⟩

theorem witness_OnlyLineOperationsWriteIntent :
    ∃ t q, step { active (port 0 0) [] with inbox := [.call (.cmd48 ⟨0x0A, 1⟩)] } = .next t ∧ t.port = some q ∧
      q.ls.modemControl ≠ (port 0 0).ls.modemControl := ⟨_, _, rfl, rfl, by decide⟩

theorem witness_SegmentsWriteOnlyTheirField :
    (∃ t q, (advance storing.pos (active (port 0 0) [])).state = some t ∧ t.port = some q ∧
      q.ls.modemStatus ≠ (port 0 0).ls.modemStatus) ∧
    (∃ t q, (advance (.answered (formatFrame 0xDB) done (.secondWrite (.reconfigure 9600 0xDB)))
        (at_ .reconfiguring (some (port 0 0)) [] [])).state = some t ∧ t.port = some q ∧
      q.ls.frameFormat ≠ (port 0 0).ls.frameFormat) ∧
    (∃ t q, (advance (.swapBaud 115200 0xC3) (at_ .reconfiguring (some (port 0 0)) [] [])).state = some t ∧
      t.port = some q ∧ q.ls.baudRate ≠ (port 0 0).ls.baudRate) :=
  ⟨⟨_, _, rfl, rfl, by decide⟩, ⟨_, _, rfl, rfl, by decide⟩, _, _, rfl, rfl, by decide⟩

/-- The invariant holds while RELEASE waits for the handler, and the step does not fault. -/
theorem witness_FaultOnlyAfterDiscard :
    let s := { active (idle 0 0) [] with pool := [⟨.release, .releaseWait⟩], monitor := some (.count 0x08 0x08) }
    s.Inv ∧ ∃ t, step s = .next t :=
  ⟨{ params := params_ok, exists_iff := by decide, legal := (by intro p h; cases h; decide), handled := by decide
     kinds := by decide, oneLifecycle := by decide, fits := by decide, passing := by decide
     oneTransfer := by decide, enabled := by decide, alone := by decide, releasing := by decide
     noLateQuery := by decide, replies := by decide }, _, rfl⟩

/-- What the invariant rules out (log entry 12): a STATUS_QUERY of the host's that has outlived the port. -/
theorem witness_FaultOnlyAfterDiscard_late_query :
    let s := { at_ .released none [] [] with pool := [storing], inbox := [.proceed 0] }
    s.port = none ∧ s.inbox = .proceed 0 :: [] ∧ s.pool[0]? = some storing ∧ (statusFrame params).dir = .toHost ∧
      [0xF6#8, 0x00#8].length = (statusFrame params).length.toNat ∧
      [0xF6#8, 0x00#8][s.cfg.statusQueryByte]? = some 0xF6#8 ∧ step s = .fault .noLineState :=
  ⟨rfl, rfl, rfl, rfl, rfl, rfl, rfl⟩

theorem witness_EveryInvocationEnds :
    let s := at_ .unconfigured (some (idle 0 0)) (bringUp ++ [done]) []
    s.Inv ∧ s.Undisturbed ∧ s.monitor = none ∧ dutyKept .openPort s = true ∧ 6 ≤ s.answers.length :=
  ⟨{ params := params_ok, exists_iff := by decide, legal := (by intro p h; cases h; decide), handled := by decide
     kinds := by decide, oneLifecycle := by decide, fits := by decide, passing := by decide
     oneTransfer := by decide, enabled := by decide, alone := by decide, releasing := by decide
     noLateQuery := by decide, replies := by decide }, by decide, by decide, by decide, by decide⟩

theorem witness_StepKeepsParameters : ∃ t, step (active (port 0 0) []) = .next t := ⟨_, rfl⟩

theorem witness_PushesCanBeReordered :
    let s := { active (port 0 0) [done, done] with
      slices := [0, 0]
      inbox := [.call (encode (.setLines 0x40 0)), .call (encode (.setLines 0x20 0)), .proceed 1, .proceed 0] }
    s.phase = .active ∧ s.port = some (port 0 0) ∧ s.pool = [] ∧ s.slices = [0, 0] ∧ s.answers = [.ok [], .ok []] ∧
      s.inbox = [.call (encode (.setLines 0x40 0)), .call (encode (.setLines 0x20 0)), .proceed 1, .proceed 0] := by
  decide

theorem witness_SeedCanOverwriteNotification :
    let seeding : Task := ⟨.openPort, .answered (statusFrame params) (.ok [0xF6, 0x00]) (.query .openPort)⟩
    let s := { at_ .initialized (some (port 0 0)) [] [true] with
      pool := [seeding], inbox := [.call (.notify4 (.record [0, 0, 0xF7, 0])), .proceed 0] }
    s.port = some (port 0 0) ∧ (port 0 0).subArmed = true ∧ (port 0 0).stopRearm = false ∧ s.monitor = none ∧
      s.slices = [] ∧ s.grants = true :: [] ∧ (statusFrame params).dir = .toHost ∧
      [0xF6#8, 0x00#8].length = (statusFrame params).length.toNat ∧
      [0xF6#8, 0x00#8][s.cfg.statusQueryByte]? = some 0xF6#8 ∧
      s.pool = [⟨.openPort, .answered (statusFrame params) (.ok [0xF6, 0x00]) (.query .openPort)⟩] ∧
      s.inbox = [.call (.notify4 (.record [0, 0, 0xF7, 0])), .proceed 0] := by decide

end Sys2Proof.Tests
end

section
/-! The rule of 00_scope.md R10 for `pack16`, and the two constants R7 derives from the parameters. -/

namespace Sys2Proof

/-- R10 defines `pack16` by a shift and an OR; the model defines it by concatenation. -/
theorem pack16_eq_shiftLeft_or (h l : Byte) : pack16 h l = (h.zeroExtend 16 <<< 8) ||| l.zeroExtend 16 :=
  calc pack16 h l
    _ = h.shiftLeftZeroExtend 8 ||| BitVec.setWidth' (by decide) l := BitVec.append_def h l
    _ = (h.zeroExtend 16 <<< 8) ||| l.zeroExtend 16 := by
      rw [BitVec.shiftLeftZeroExtend_eq, BitVec.setWidth'_eq]

end Sys2Proof

namespace Sys2Proof.Machine

/-- `CTRL_MASK` by R7. -/
theorem ctrlMask_eq (c : Config.Params) : ctrlMask c = c.rtsBit ||| c.dtrBit := rfl

/-- `SEL_BREAK` by R7. -/
theorem selBreak_eq_shiftLeft_or (c : Config.Params) :
    selBreak c = (c.lcrReg.zeroExtend 16 <<< 8) ||| c.breakReg.zeroExtend 16 :=
  pack16_eq_shiftLeft_or c.lcrReg c.breakReg

/-- Settles O5: R7's selector is R10's `pack16` of the two registers, and R7's mask is the model's own definition. -/
theorem derivedConstants : Obligations.DerivedConstants :=
  fun c => ⟨selBreak_eq_shiftLeft_or c, ctrlMask_eq c⟩

end Sys2Proof.Machine
end

section
/-!
The baud-rate synthesizer (41_baud_synth.md R121 to R128): the search as its least number of shifts, the choice between
the two clocks, the form of a successful answer, and the rejection of a rate of 0.
-/

namespace Sys2Proof

/-! ## The bytes of a register value (R10) -/

@[simp] theorem hi8_pack16 (h l : Byte) : hi8 (pack16 h l) = h :=
  BitVec.extractLsb'_append_eq_left

@[simp] theorem lo8_pack16 (h l : Byte) : lo8 (pack16 h l) = l :=
  BitVec.extractLsb'_append_eq_right

end Sys2Proof

namespace Sys2Proof.Machine

/-! ## The candidate search (R121) -/

/-- The loop shifts the least number of times `j` after which the factor is at most 255, or until the divisor is 0. -/
theorem shiftLoop_eq (d q shift : Nat) :
    ∃ j ≤ d, shiftLoop d q shift = ⟨q / 8 ^ j, d - j, shift * 8 ^ j⟩ ∧
      (q / 8 ^ j ≤ 255 ∨ j = d) ∧ ∀ i < j, 255 < q / 8 ^ i := by
  induction d generalizing q shift with
  | zero => exact ⟨0, le_rfl, by simp [shiftLoop], .inr rfl, by simp⟩
  | succ d ih =>
    by_cases hq : 255 < q
    · obtain ⟨j, hj, heq, hexit, hleast⟩ := ih (q / 8) (shift * 8)
      have hdiv (i : Nat) : q / 8 / 8 ^ i = q / 8 ^ (i + 1) := by
        rw [Nat.div_div_eq_div_mul, pow_succ']
      have hshift : shiftLoop (d + 1) q shift = shiftLoop d (q / 8) (shift * 8) := by
        simp [shiftLoop, hq, Nat.shiftRight_eq_div_pow, Nat.shiftLeft_eq]
      refine ⟨j + 1, by omega, ?_, ?_, fun i hi => ?_⟩
      · rw [hshift, heq, hdiv, mul_assoc, ← pow_succ', Nat.add_sub_add_right]
      · rw [← hdiv]; omega
      · cases i with
        | zero => simpa using hq
        | succ i => rw [← hdiv]; exact hleast i (by omega)
    · exact ⟨0, by omega, by simp [shiftLoop, hq], .inl (by simpa using hq), by simp⟩

/-- A candidate is the rounded quotient after the least number `j` of shifts, each a division by 8; `j` is at most 3. -/
theorem candidate_eq (clock baud : Nat) :
    ∃ j ≤ 3, candidate clock baud = ⟨rdiv clock baud / 8 ^ j, 3 - j, 8 ^ j⟩ ∧
      (rdiv clock baud / 8 ^ j ≤ 255 ∨ j = 3) ∧ ∀ i < j, 255 < rdiv clock baud / 8 ^ i := by
  simpa [candidate] using shiftLoop_eq Config.maxDiv (rdiv clock baud) 1

theorem candidate_divisor_le (clock baud : Nat) : (candidate clock baud).divisor ≤ 3 := by
  obtain ⟨j, -, heq, -⟩ := candidate_eq clock baud
  simp [heq]

/-- A shift is taken only from a factor above 255, so that it never makes the factor 0. -/
theorem div_eight_pow_eq_zero_iff {q j : Nat} (hleast : ∀ i < j, 255 < q / 8 ^ i) : q / 8 ^ j = 0 ↔ q = 0 := by
  cases j with
  | zero => simp
  | succ i =>
    have hlast : 255 < q / 8 ^ i := hleast i (by omega)
    have hq : q / 8 ^ i ≤ q := Nat.div_le_self q (8 ^ i)
    rw [pow_succ, ← Nat.div_div_eq_div_mul]
    omega

/-- Settles O15: the candidate is the quotient after its least number of shifts. -/
theorem candidateSearch : Obligations.CandidateSearch := by
  intro clock baud _ _
  obtain ⟨j, hj, heq, hexit, hleast⟩ := candidate_eq clock baud
  have hsub : 3 - (3 - j) = j := by omega
  rw [heq]
  refine ⟨Nat.sub_le 3 j, by simp only [hsub], rfl, ?_, fun hd => ?_, div_eight_pow_eq_zero_iff hleast⟩
  · exact hexit.imp_right fun h => by simp [h]
  · simp only at hd ⊢
    exact hleast _ (by omega)

/-! ## The choice of the clock (R123, R124) -/

theorem doubleAdopted_iff (baud : Nat) :
    doubleAdopted baud = true ↔ 8 < (candidate 12000000 baud).factor ∧
      (candidate 12000000 baud).diff 12000000 baud < (candidate 6000000 baud).diff 6000000 baud := by
  simp [doubleAdopted, Config.base, Config.doubleMinFactor]

theorem chosen_eq (baud : Nat) :
    chosen baud = if doubleAdopted baud = true then candidate 12000000 baud else candidate 6000000 baud := rfl

theorem chosen_divisor_le (baud : Nat) : (chosen baud).divisor ≤ 3 := by
  rw [chosen_eq]
  split
  · exact candidate_divisor_le _ _
  · exact candidate_divisor_le _ _

/-! ## A successful synthesis (R127 to R129) -/

/-- What a successful synthesis answers: the chosen candidate, whose factor is within the bounds, and its payload. -/
theorem synthesizeRate_ok {b : U32} {plan : BaudPlan} {payload : U16} (h : synthesizeRate b = .ok (plan, payload)) :
    plan.factor.toNat = (chosen b.toNat).factor ∧ plan.divisor.toNat = (chosen b.toNat).divisor ∧
      plan.useDoubleClock = doubleAdopted b.toNat ∧
      payload = baudPayload plan.factor.toNat plan.divisor.toNat plan.useDoubleClock := by
  have hdiv := chosen_divisor_le b.toNat
  simp only [synthesizeRate] at h
  split_ifs at h with hzero hsingle hrange
  obtain ⟨rfl, rfl⟩ := Prod.mk.inj (Except.ok.inj h)
  have hfactor : (BitVec.ofNat 16 (chosen b.toNat).factor).toNat = (chosen b.toNat).factor :=
    Nat.mod_eq_of_lt (by omega)
  have hdivisor : (BitVec.ofNat 8 (chosen b.toNat).divisor).toNat = (chosen b.toNat).divisor :=
    Nat.mod_eq_of_lt (by omega)
  exact ⟨hfactor, hdivisor, rfl, by rw [hfactor, hdivisor]⟩

/-- Settles O18: the adopted candidate by R124's two conditions, the tie, and the plan of a success. -/
theorem doubleClockOnlyIfStrictlyCloser : Obligations.DoubleClockOnlyIfStrictlyCloser := by
  intro b _ c1 c2 diff1 diff2
  have hadopt : doubleAdopted b.toNat = true ↔ 8 < c2.factor ∧ diff2 < diff1 := doubleAdopted_iff b.toNat
  have hchosen : chosen b.toNat = if 8 < c2.factor ∧ diff2 < diff1 then c2 else c1 := by
    simp only [chosen_eq, hadopt, c1, c2]
  refine ⟨hchosen, fun htie => ?_, fun plan payload h => ?_⟩
  · rw [hchosen, if_neg fun hcloser => (hcloser.2.trans_eq htie).false]
  · obtain ⟨hfactor, hdivisor, hdouble, -⟩ := synthesizeRate_ok h
    exact ⟨hdouble ▸ hadopt, hfactor, hdivisor⟩

/-- Settles O19: R128's two bytes; bit 7 is the one that the constant `PAYLOAD_FLUSH` sets in the low byte. -/
theorem payloadForm : Obligations.PayloadForm := by
  intro b plan payload h
  obtain ⟨-, -, -, rfl⟩ := synthesizeRate_ok h
  have hlo : lo8 (baudPayload plan.factor.toNat plan.divisor.toNat plan.useDoubleClock) =
      0x80 ||| (if plan.useDoubleClock then 0x04 else 0x00) ||| plan.divisor := by
    simp [baudPayload]
  refine ⟨by simp [baudPayload], hlo, ?_⟩
  have hbit : (lo8 (baudPayload plan.factor.toNat plan.divisor.toNat plan.useDoubleClock)).getLsbD 7 = true := by
    rw [hlo]; simp
  simpa [lo8] using hbit

/-! ## A rejected rate (R125) -/

theorem synthesizeRate_zero : synthesizeRate 0 = .error .invalidBaudRate := rfl

/-- An admitted operation whose first segment returns and writes no state uses up its turn and answers: nothing else
happens, whatever the schedule. -/
theorem invoke_returns {op : Instr} {s : State} {first : State → Seg} {r : Result} (hlegal : legal op s.phase = true)
    (hduty : dutyKept op s = true) (hfirst : first s.takeSlice = .ret r s.takeSlice) :
    invoke op s first = .next { s with slices := s.slices.tail, out := s.out ++ [.result (some op) r] } := by
  simp only [invoke, hlegal, hduty, if_true, hfirst, drive_ret]
  rfl

theorem exec_synthesize (b : U32) (s : State) : exec (.synthesize b) s = execSynthesize b s := rfl

theorem exec_programLine (b : U32) (f : Byte) (s : State) :
    exec (.programLine b f) s = execProgramLine b f s := rfl

theorem exec_synthesize_of_rejected {b : U32} {e : ErrorKind} {s : State} (h : synthesizeRate b = .error e)
    (hs : s.OpenToHost) :
    exec (.synthesize b) s = .next { s with
      slices := s.slices.tail, out := s.out ++ [.result (some (.synthesize b)) (.err e)] } := by
  rw [exec_synthesize, execSynthesize]
  exact invoke_returns rfl (dutyKept_other rfl hs) (by simp [h])

theorem exec_programLine_of_rejected {b : U32} {e : ErrorKind} {s : State} (f : Byte) (h : synthesizeRate b = .error e)
    (hs : s.OpenToHost) :
    exec (.programLine b f) s = .next { s with
      slices := s.slices.tail, out := s.out ++ [.result (some (.programLine b f)) (.err e)] } := by
  rw [exec_programLine, execProgramLine]
  exact invoke_returns rfl (dutyKept_other rfl hs) (by simp [lineStart, h])

/-- Settles O16: a rate of 0 is one that the synthesizer rejects, and neither operation then sends a frame. -/
theorem zeroRateRejected : Obligations.ZeroRateRejected :=
  ⟨synthesizeRate_zero, fun _ f hs =>
    ⟨exec_synthesize_of_rejected synthesizeRate_zero hs, exec_programLine_of_rejected f synthesizeRate_zero hs⟩⟩

end Sys2Proof.Machine
end

section
/-!
The status monitor (43_status_monitor.md R170, R173): what one delivery does to the port, the handler run from its
delivery to its re-arm, and the status delta law over a sequence of deliveries.
-/

namespace Sys2Proof.Machine

/-! ## The handler's segments -/

theorem monitorOnPort_some {s : State} {p : Port} (h : s.port = some p) (f : Port → State) :
    monitorOnPort s f = .next (f p) := by
  simp [monitorOnPort, h]

/-- A delivery that carries a status has it stored, and the change against the old one is kept for the counters. -/
theorem monitorSegment_decode_status {d : Delivery} {st : Byte} {s : State} {p : Port}
    (hd : deliveredStatus d = some st) (hp : s.port = some p) :
    monitorSegment (.decode d) s = .next { s.setPort (p.setStatus st) with
      monitor := some (.count (statusDelta st p.ls.modemStatus) st) } := by
  revert hd
  fun_cases deliveredStatus d with
  | case1 _ _ inv => rintro ⟨⟩; exact monitorOnPort_some hp _
  | case2 => exact nofun
  | case3 => exact nofun

/-- A delivery that carries no status goes on to the re-arm (R171, R182). -/
theorem monitorSegment_decode_discarded {d : Delivery} (hd : deliveredStatus d = none) (s : State) :
    monitorSegment (.decode d) s = .next { s with monitor := some .rearm } := by
  revert hd
  fun_cases deliveredStatus d with
  | case1 => exact nofun
  | case2 bytes hshort =>
    intro _
    rw [monitorSegment]
    simpa using hshort
  | case3 => exact fun _ => rfl

theorem monitorSegment_count {s : State} {p : Port} (hp : s.port = some p) (delta st : Byte) :
    monitorSegment (.count delta st) s = .next { s with
      port := some { p with cnt := p.cnt.after delta }
      out := s.out ++ carrierEvents delta st
      monitor := some .rearm } :=
  monitorOnPort_some hp _

theorem monitorSegment_rearm {s : State} {p : Port} (hp : s.port = some p) :
    monitorSegment .rearm s = .next (s.rearm p) :=
  monitorOnPort_some hp _

@[simp] theorem State.rearm_monitor (s : State) (p : Port) : (s.rearm p).monitor = none := rfl

/-- A re-arm that is due and granted takes one listed answer and leaves the subscription outstanding (R177). -/
theorem rearm_granted {s : State} {p : Port} {gs : List Bool} (hstop : p.stopRearm = false) (harm : p.subArmed = false)
    (hg : s.grants = true :: gs) :
    s.rearm p = { s with
      port := some { p with subArmed := true }, monitor := none, grants := gs, out := s.out ++ [.submit] } := by
  simp [State.rearm, hstop, harm, submit_listed hg, State.setPort]

/-! ## What a delivery does to the port -/

@[simp] theorem statusDelta_self (st : Byte) : statusDelta st st = 0 := BitVec.xor_self

theorem bump_eq (delta mask : Byte) (n : Nat) : bump delta mask n = n + bitCount delta mask := by
  unfold bump bitCount anyBit
  by_cases h : delta &&& mask = 0
  · simp [h]
  · simp only [if_neg h, bne_iff_ne.2 h, if_true]

theorem Counters.after_zero (c : Counters) : c.after 0 = c := rfl

/-- The status in force once this delivery is handled: the one it carries, else the old one. -/
def Port.statusAfter (p : Port) (d : Delivery) : Byte := (deliveredStatus d).getD p.ls.modemStatus

/-- The port once this delivery is handled, its subscription flags apart. -/
def Port.notified (p : Port) (d : Delivery) : Port :=
  { p.setStatus (p.statusAfter d) with cnt := p.cnt.after (statusDelta (p.statusAfter d) p.ls.modemStatus) }

@[simp] theorem Port.notified_modemStatus (p : Port) (d : Delivery) :
    (p.notified d).ls.modemStatus = p.statusAfter d := rfl
@[simp] theorem Port.notified_cnt (p : Port) (d : Delivery) :
    (p.notified d).cnt = p.cnt.after (statusDelta (p.statusAfter d) p.ls.modemStatus) := rfl

theorem Port.notified_status {d : Delivery} {st : Byte} (hd : deliveredStatus d = some st) (p : Port) :
    p.notified d = { p.setStatus st with cnt := p.cnt.after (statusDelta st p.ls.modemStatus) } := by
  simp [notified, statusAfter, hd]

theorem Port.notified_discarded {d : Delivery} (hd : deliveredStatus d = none) (p : Port) : p.notified d = p := by
  simp only [notified, statusAfter, hd, Option.getD_none, statusDelta_self, Counters.after_zero]
  rfl

/-- What a delivery puts on the output ports before the re-arm. -/
def Port.notifiedEvents (p : Port) (d : Delivery) : List PortEvent :=
  carrierEvents (statusDelta (p.statusAfter d) p.ls.modemStatus) (p.statusAfter d)

theorem Port.notifiedEvents_status {d : Delivery} {st : Byte} (hd : deliveredStatus d = some st) (p : Port) :
    p.notifiedEvents d = carrierEvents (statusDelta st p.ls.modemStatus) st := by
  simp [notifiedEvents, statusAfter, hd]

theorem Port.notifiedEvents_discarded {d : Delivery} (hd : deliveredStatus d = none) (p : Port) :
    p.notifiedEvents d = [] := by
  simp [notifiedEvents, statusAfter, hd, carrierEvents, anyBit]

/-! ## A whole handling -/

/-- The state once this delivery is handled, but for the re-arm. -/
def State.notified (s : State) (p : Port) (d : Delivery) : State :=
  { s with port := some (p.notified d), out := s.out ++ p.notifiedEvents d, monitor := some .rearm }

theorem State.notified_status {d : Delivery} {st : Byte} (hd : deliveredStatus d = some st) (s : State) (p : Port) :
    s.notified p d = { s with
      port := some { p.setStatus st with cnt := p.cnt.after (statusDelta st p.ls.modemStatus) }
      out := s.out ++ carrierEvents (statusDelta st p.ls.modemStatus) st
      monitor := some .rearm } := by
  simp only [notified, p.notified_status hd, p.notifiedEvents_status hd]

theorem State.notified_discarded {d : Delivery} (hd : deliveredStatus d = none) {s : State} {p : Port}
    (hp : s.port = some p) : s.notified p d = { s with monitor := some .rearm } := by
  simp only [notified, p.notified_discarded hd, p.notifiedEvents_discarded hd, List.append_nil, ← hp]

/-- The handler takes three segments, or two where the delivery is discarded; the last one is the re-arm. -/
theorem runMonitor_decode {s : State} {p : Port} {d : Delivery} (hm : s.monitor = some (.decode d))
    (hp : s.port = some p) (n : Nat) :
    runMonitor (n + 3) s = .next ((s.notified p d).rearm (p.notified d)) := by
  have hrearm (k : Nat) : runMonitor (k + 1) (s.notified p d) = .next ((s.notified p d).rearm (p.notified d)) :=
    (runMonitor_segment rfl (monitorSegment_rearm rfl)).trans (runMonitor_none (State.rearm_monitor _ _) k)
  cases hd : deliveredStatus d with
  | none =>
    rw [runMonitor_segment hm (monitorSegment_decode_discarded hd s), ← State.notified_discarded hd hp, hrearm]
  | some st =>
    have hcount := monitorSegment_count (State.setPort_port s (p.setStatus st)) (statusDelta st p.ls.modemStatus) st
    rw [runMonitor_segment hm (monitorSegment_decode_status hd hp), ← hrearm n, State.notified_status hd]
    exact runMonitor_segment rfl hcount

theorem exec_notify (d : Delivery) (s : State) : exec (.notify d) s = execNotify d s := rfl

/-- The port while a delivery is handled: the subscription is used up (R65). -/
def Port.consumed (p : Port) : Port := { p with subArmed := false }

/-- With no schedule listed, a delivery that is due is handled to its end. -/
theorem exec_notify_undisturbed {s : State} {p : Port} (d : Delivery) (hs : s.slices = []) (hm : s.monitor = none)
    (hp : s.port = some p) (ha : p.subArmed = true) :
    exec (.notify d) s = .next ((s.notified p.consumed d).rearm (p.consumed.notified d)) := by
  have hdue : s.deliverable = true := (deliverable_iff s).2 ⟨hm, p, hp, ha⟩
  simp only [exec_notify, execNotify, hdue, hp, slice_nil hs, takeSlice_nil hs]
  exact runMonitor_decode (State.deliver_monitor s p d) (State.deliver_port s p d) _

/-- A granted re-arm restores the subscription that the delivery used up. -/
theorem Port.rearmed_consumed_notified {p : Port} (ha : p.subArmed = true) (d : Delivery) :
    { p.consumed.notified d with subArmed := true } = p.notified d := by
  rw [← ha]; rfl

/-- A delivery that is due, and whose re-arm is granted, leaves the block ready for the next one. -/
theorem exec_notify_granted {s : State} {p : Port} {gs : List Bool} (d : Delivery) (hs : s.slices = [])
    (hm : s.monitor = none) (hp : s.port = some p) (ha : p.subArmed = true) (hstop : p.stopRearm = false)
    (hg : s.grants = true :: gs) :
    exec (.notify d) s = .next { s with
      port := some (p.notified d), grants := gs, out := s.out ++ p.notifiedEvents d ++ [.submit] } := by
  rw [exec_notify_undisturbed d hs hm hp ha,
    rearm_granted (s := s.notified p.consumed d) (p := p.consumed.notified d) hstop rfl hg,
    Port.rearmed_consumed_notified ha, hm]
  rfl

/-! ## Sequences of deliveries (R173) -/

theorem notifyAll_cons {d : Delivery} {s s' : State} (h : exec (.notify d) s = .next s') (ds : List Delivery) :
    notifyAll (d :: ds) s = notifyAll ds s' := by
  simp [notifyAll, h]

/-- Deliveries that are each followed by a granted re-arm are all handled: the port is notified of one after another. -/
theorem notifyAll_granted (ds : List Delivery) : ∀ (s : State) (p : Port) (gs : List Bool),
    s.slices = [] → s.monitor = none → s.port = some p → p.subArmed = true → p.stopRearm = false →
    s.grants = List.replicate ds.length true ++ gs →
    ∃ t, notifyAll ds s = .next t ∧ t.port = some (ds.foldl Port.notified p) := by
  induction ds with
  | nil => exact fun s p gs _ _ hp _ _ _ => ⟨s, rfl, hp⟩
  | cons d ds ih =>
    intro s p gs hs hm hp ha hstop hg
    rw [notifyAll_cons (exec_notify_granted d hs hm hp ha hstop hg)]
    exact ih _ (p.notified d) gs hs hm rfl ha hstop rfl

theorem foldl_notified_modemStatus (ds : List Delivery) (p : Port) :
    (ds.foldl Port.notified p).ls.modemStatus = latestStatus p.ls.modemStatus ds := by
  induction ds generalizing p with
  | nil => rfl
  | cons d ds ih => exact ih (p.notified d)

/-- A counter that goes up by its own bit of every change goes up, over a sequence, by how often that bit changed. -/
theorem foldl_notified_counter {counter : Counters → Nat} {mask : Byte}
    (hafter : ∀ c delta, counter (c.after delta) = counter c + bitCount delta mask) (ds : List Delivery) (p : Port) :
    counter (ds.foldl Port.notified p).cnt = counter p.cnt + changesOf mask p.ls.modemStatus ds := by
  induction ds generalizing p with
  | nil => rfl
  | cons d ds ih =>
    rw [List.foldl_cons, ih, Port.notified_cnt, hafter, Port.notified_modemStatus, Nat.add_assoc]
    rfl

/-- Settles O35, by induction on the deliveries: each of the four counters follows its own bit. -/
theorem statusDeltaLaw : Obligations.StatusDeltaLaw := by
  intro ds s p gs hs hm hp ha hstop hg
  obtain ⟨t, ht, hq⟩ := notifyAll_granted ds s p gs hs hm hp ha hstop hg
  exact ⟨t, _, ht, hq, foldl_notified_modemStatus ds p,
    foldl_notified_counter (counter := Counters.cts) (fun _ _ => bump_eq _ _ _) ds p,
    foldl_notified_counter (counter := Counters.dsr) (fun _ _ => bump_eq _ _ _) ds p,
    foldl_notified_counter (counter := Counters.ri) (fun _ _ => bump_eq _ _ _) ds p,
    foldl_notified_counter (counter := Counters.dcd) (fun _ _ => bump_eq _ _ _) ds p⟩

end Sys2Proof.Machine
end

section
/-!
The encodings (30_encoding.md): a setup packet's 16-bit fields and a command word's `arg` are put together and taken
apart again without loss, so the decoder and the encoder undo each other.
-/

namespace Sys2Proof

/-! ## The fields of a setup packet (R71) -/

@[simp] theorem pack16_hi8_lo8 (w : U16) : pack16 (hi8 w) (lo8 w) = w :=
  (BitVec.extractLsb'_append_extractLsb'_eq_extractLsb' (x := w) rfl).trans (BitVec.extractLsb'_eq_self)

/-- A 16-bit field has the value `w` exactly when its two bytes are those of `w`. -/
theorem pack16_eq_iff (h l : Byte) (w : U16) : pack16 h l = w ↔ h = hi8 w ∧ l = lo8 w := by
  constructor
  · rintro rfl
    simp
  · rintro ⟨rfl, rfl⟩
    exact pack16_hi8_lo8 w

theorem zext16_eq_pack16 (b : Byte) : zext16 b = pack16 0 b := by
  rw [pack16_eq_shiftLeft_or]
  simp [zext16]

@[simp] theorem not8_not8 (b : Byte) : not8 (not8 b) = b := BitVec.not_not

@[simp] theorem hi8_zero : hi8 0#16 = 0#8 := rfl
@[simp] theorem pack16_zero : pack16 0#8 0#8 = 0#16 := rfl
@[simp] theorem lo8_zero : lo8 0#16 = 0#8 := rfl

/-! ## The fields of a command word's `arg` (R84) -/

theorem argBaud_append (b : U32) (low : Byte) : argBaud (b ++ low : BitVec (32 + 8)) = b :=
  BitVec.extractLsb'_append_eq_left

theorem argByte0_append (b : U32) (low : Byte) : argByte0 (b ++ low : BitVec (32 + 8)) = low :=
  BitVec.extractLsb'_append_eq_right

theorem argByte1_append (high low : Byte) : argByte1 (high.zeroExtend 32 ++ low : BitVec (32 + 8)) = high := by
  refine BitVec.eq_of_getLsbD_eq fun i hi => ?_
  rw [argByte1, BitVec.getLsbD_extractLsb', BitVec.getLsbD_append]
  simp only [hi, decide_true, Bool.true_and, Nat.add_sub_cancel_left]
  rw [if_neg (by omega), BitVec.getLsbD_setWidth]
  simp; omega

theorem argBit0_append (flag : Bool) :
    argBit0 ((0 : Byte).zeroExtend 32 ++ (if flag then 1 else 0 : Byte) : BitVec (32 + 8)) = flag := by
  cases flag <;> rfl

/-- Settles O1: an operation's fields are read back from its encoded object one by one. -/
theorem decodeEncodeAgree : Obligations.DecodeEncodeAgree := by
  intro i hwf
  cases i with
  | readReg sel len =>
    have hlen : len < 65536 := by simpa [Instr.wellFormed, Nat.lt_succ_iff] using hwf
    simp [encode, decode, decodeSetup8, setupPacket, Nat.mod_eq_of_lt hlen]
  | writeReg sel v => simp [encode, decode, decodeSetup8, setupPacket]
  | readVersion => rfl
  | serialInit => rfl
  | modemCtrl ctl => simp [encode, decode, decodeSetup8, setupPacket, zext16_eq_pack16]
  | notify d => rfl
  | reconfigure b f => simp [encode, wideCommand, decode, decodeCmd48, argBaud_append, argByte0_append]
  | setBaudRate b => simp [encode, wideCommand, decode, decodeCmd48, argBaud_append]
  | setFrameFormat f => simp [encode, byteCommand, wideCommand, decode, decodeCmd48, argByte0_append]
  | setLines m c => simp [encode, byteCommand, wideCommand, decode, decodeCmd48, argByte0_append, argByte1_append]
  | raiseLines on => exact congrArg _ (congrArg _ (argBit0_append on))
  | setBreak on => exact congrArg _ (congrArg _ (argBit0_append on))
  | synthesize b => simp [encode, wideCommand, decode, decodeCmd48, argBaud_append]
  | programLine b f => simp [encode, wideCommand, decode, decodeCmd48, argBaud_append, argByte0_append]
  | _ => rfl

/-! ## The encoder after the decoder -/

/-- The place of a bit in the two parts of `arg`. -/
theorem getLsbD_arg (b : U32) (low : Byte) (i : Nat) :
    (b ++ low : BitVec (32 + 8)).getLsbD i = if i < 8 then low.getLsbD i else b.getLsbD (i - 8) :=
  BitVec.getLsbD_append

/-- The bits of `arg` that an operation uses (R84), by their places. -/
theorem getLsbD_mask {i : Nat} (hi : i < 40) :
    (0xFFFFFFFF00 : BitVec 40).getLsbD i = decide (8 ≤ i) ∧
      (0x000000FFFF : BitVec 40).getLsbD i = decide (i < 16) ∧
      (0x00000000FF : BitVec 40).getLsbD i = decide (i < 8) ∧
      (0x0000000001 : BitVec 40).getLsbD i = decide (i = 0) := by
  have h : ∀ j : Fin 40,
      (0xFFFFFFFF00 : BitVec 40).getLsbD j = decide (8 ≤ j.val) ∧
      (0x000000FFFF : BitVec 40).getLsbD j = decide (j.val < 16) ∧
      (0x00000000FF : BitVec 40).getLsbD j = decide (j.val < 8) ∧
      (0x0000000001 : BitVec 40).getLsbD j = decide (j.val = 0) := by decide
  exact h ⟨i, hi⟩

theorem argBaud_append_argByte0 (arg : BitVec 40) : (argBaud arg ++ argByte0 arg : BitVec (32 + 8)) = arg :=
  (BitVec.extractLsb'_append_extractLsb'_eq_extractLsb' (x := arg) rfl).trans (BitVec.extractLsb'_eq_self)

theorem argBaud_append_zero (arg : BitVec 40) :
    (argBaud arg ++ (0 : Byte) : BitVec (32 + 8)) = arg &&& 0xFFFFFFFF00 := by
  refine BitVec.eq_of_getLsbD_eq fun i hi => ?_
  rw [getLsbD_arg, argBaud, BitVec.getLsbD_extractLsb', BitVec.getLsbD_and, (getLsbD_mask hi).1]
  by_cases h : i < 8
  · simp [h]
  · have hlt : i - 8 < 32 := by omega
    have hadd : 8 + (i - 8) = i := by omega
    simp [h, hlt, hadd, Nat.not_lt.1 h]

theorem zero_append_argByte0 (arg : BitVec 40) :
    ((0 : Byte).zeroExtend 32 ++ argByte0 arg : BitVec (32 + 8)) = arg &&& 0xFF := by
  refine BitVec.eq_of_getLsbD_eq fun i hi => ?_
  rw [getLsbD_arg, argByte0, BitVec.getLsbD_extractLsb', BitVec.getLsbD_and, (getLsbD_mask hi).2.2.1]
  by_cases h : i < 8 <;> simp [h]

theorem argByte1_append_argByte0 (arg : BitVec 40) :
    ((argByte1 arg).zeroExtend 32 ++ argByte0 arg : BitVec (32 + 8)) = arg &&& 0xFFFF := by
  refine BitVec.eq_of_getLsbD_eq fun i hi => ?_
  rw [getLsbD_arg, argByte0, argByte1, BitVec.getLsbD_extractLsb', BitVec.getLsbD_and, (getLsbD_mask hi).2.1]
  by_cases h : i < 8
  · have h' : i < 16 := by omega
    simp [h, h']
  · have hadd : 8 + (i - 8) = i := by omega
    have hlt : i - 8 < 32 := by omega
    have hiff : i - 8 < 8 ↔ i < 16 := by omega
    simp [h, hlt, hadd, hiff, Bool.and_comm]

theorem zero_append_argBit0 (arg : BitVec 40) :
    ((0 : Byte).zeroExtend 32 ++ (if argBit0 arg then 1 else 0 : Byte) : BitVec (32 + 8)) = arg &&& 1 := by
  refine BitVec.eq_of_getLsbD_eq fun i hi => ?_
  rw [getLsbD_arg, BitVec.getLsbD_and, (getLsbD_mask hi).2.2.2, argBit0]
  by_cases h : i = 0
  · subst h
    cases arg.getLsbD 0 <;> simp
  · by_cases h8 : i < 8 <;> cases arg.getLsbD 0 <;> simp [h, h8]

/-- A setup packet that names an operation is the one the encoder makes. -/
theorem encode_decodeSetup8 {p : SetupPacket} {i : Instr} (h : decodeSetup8 p = .ok i) : encode i = .setup8 p := by
  obtain ⟨ty, req, vl, vh, il, ih, ll, lh⟩ := p
  simp only [decodeSetup8, pack16_eq_iff] at h
  split_ifs at h with hw hr hv hs hm
  · obtain ⟨rfl, rfl, rfl, rfl⟩ := hw
    cases h
    simp [encode, setupPacket]
  · obtain ⟨rfl, rfl, rfl, rfl⟩ := hr
    cases h
    simp [encode, setupPacket]
  · obtain ⟨rfl, rfl, ⟨rfl, rfl⟩, ⟨rfl, rfl⟩, rfl, rfl⟩ := hv
    cases h
    simp [encode, setupPacket]
  · obtain ⟨rfl, rfl, ⟨rfl, rfl⟩, ⟨rfl, rfl⟩, rfl, rfl⟩ := hs
    cases h
    simp [encode, setupPacket]
  · obtain ⟨rfl, rfl, rfl, ⟨rfl, rfl⟩, rfl, rfl⟩ := hm
    cases h
    simp [encode, setupPacket, zext16_eq_pack16]

/-- Every command word the encoder makes has `op` and the two parts of `arg`; those of `c` give `c` without its unused
bits. -/
theorem wideCommand_eq {c : CommandWord} {op : Byte} {b : U32} {low : Byte} (hop : c.op = op)
    (harg : (b ++ low : BitVec (32 + 8)) = c.arg &&& usedBits op) :
    wideCommand op b low = .cmd48 { op := c.op, arg := c.arg &&& usedBits c.op } := by
  rw [hop, ← harg, wideCommand]

theorem bareCommand_eq {c : CommandWord} {op : Byte} (hop : c.op = op) (hunused : usedBits op = 0) :
    bareCommand op = .cmd48 { op := c.op, arg := c.arg &&& usedBits c.op } :=
  wideCommand_eq (b := 0) (low := 0) hop (by rw [hunused]; exact BitVec.and_zero.symm)

/-- A command word that names an operation is the one the encoder makes, but for the bits of `arg` that R84 leaves
unused. -/
theorem encode_decodeCmd48 {c : CommandWord} {i : Instr} (h : decodeCmd48 c = .ok i) :
    encode i = .cmd48 { op := c.op, arg := c.arg &&& usedBits c.op } := by
  revert h
  fun_cases decodeCmd48 c <;> rintro ⟨⟩
  case case3 hop | case14 hop =>
    exact wideCommand_eq hop ((argBaud_append_argByte0 c.arg).trans BitVec.and_allOnes.symm)
  case case4 hop | case13 hop => exact wideCommand_eq hop (argBaud_append_zero c.arg)
  case case5 hop => exact wideCommand_eq hop (zero_append_argByte0 c.arg)
  case case8 hop => exact wideCommand_eq hop (argByte1_append_argByte0 c.arg)
  case case10 hop | case12 hop => exact wideCommand_eq hop (zero_append_argBit0 c.arg)
  all_goals rename_i hop; exact bareCommand_eq hop rfl

/-- Settles O2: a setup packet, a command word, a notification. -/
theorem encodeDecodeAgree : Obligations.EncodeDecodeAgree :=
  ⟨fun _ _ h => encode_decodeSetup8 h, fun _ _ h => encode_decodeCmd48 h, fun _ => ⟨rfl, rfl⟩⟩

/-- Settles O3: the decoder evaluated on each word. -/
theorem sampleWordsDecode : Obligations.SampleWordsDecode := by
  refine ⟨?_, ?_, ?_, ?_, ?_, ?_, ?_⟩ <;> decide

end Sys2Proof

namespace Sys2Proof.Machine

/-! ## The frames on the wire (R71 to R79) -/

theorem writeRegFrame_packet (sel v : U16) :
    (writeRegFrame sel v).packet = ⟨0x40, 0x9A, lo8 v, hi8 v, lo8 sel, hi8 sel, 0, 0⟩ := by
  simp [writeRegFrame, Frame.packet, setupPacket]

theorem readRegFrame_packet (sel : U16) (n : Nat) : (readRegFrame sel n).packet =
    ⟨0xC0, 0x95, lo8 sel, hi8 sel, 0, 0, lo8 (BitVec.ofNat 16 n), hi8 (BitVec.ofNat 16 n)⟩ := by
  simp [readRegFrame, Frame.packet, setupPacket]

theorem modemCtrlFrame_packet (ctl : Byte) : (modemCtrlFrame ctl).packet = ⟨0x40, 0xA4, ~~~ctl, 0, 0, 0, 0, 0⟩ := by
  simp [modemCtrlFrame, Frame.packet, setupPacket, zext16_eq_pack16, not8]

/-- Settles O4: the frames' fields cut into bytes, low byte first. -/
theorem framesOnTheWire : Obligations.FramesOnTheWire := by
  refine ⟨writeRegFrame_packet, readRegFrame_packet, rfl, rfl, modemCtrlFrame_packet, fun f => ?_⟩
  rw [formatFrame, writeRegFrame_packet, zext16_eq_pack16, lo8_pack16, hi8_pack16]
  rfl

end Sys2Proof.Machine
end

section
/-!
What a segment of an invocation can do, said once: the first segment of every operation (`Begins`), every further one
(`Takes`), and how `exec` and `step` come to them. The proofs about every step or every segment go through these.
-/

namespace Sys2Proof.Machine

/-! ## Further segments -/

/-- SUBSCRIBE's atomic block writes the subscription flags, the record of answers and the SUB port, and nothing else. -/
theorem subscribe_frame {s t : State} {p : Port} {g : Bool} (hp : s.port = some p) (h : s.subscribe p = (g, t)) :
    ∃ q gs n es, q.ls = p.ls ∧ q.cnt = p.cnt ∧
      t = { s with port := some q, grants := gs, asked := n, out := s.out ++ es } := by
  obtain ⟨-, heq⟩ | ⟨-, gs, n, heq | heq⟩ := subscribe_spec s p
  · obtain ⟨-, rfl⟩ := Prod.mk.inj (heq.symm.trans h)
    exact ⟨p, s.grants, s.asked, [], rfl, rfl, by simp [← hp]⟩
  · obtain ⟨-, rfl⟩ := Prod.mk.inj (heq.symm.trans h)
    exact ⟨{ p with subArmed := true, stopRearm := false, monitorLost := false }, gs, n, [.submit], rfl, rfl, rfl⟩
  · obtain ⟨-, rfl⟩ := Prod.mk.inj (heq.symm.trans h)
    exact ⟨p, gs, n, [.submit], rfl, rfl, by simp [← hp]⟩

/-- What a segment at a position can come to: one constructor for each way the code of 41_baud_synth.md R132,
42_modem_lines.md R154, 44_break.md R190 and 45_orchestrator.md R204 to R210 goes on from there. -/
inductive Takes (s : State) : Pos → Seg → Prop
  | channelBusy {f k} (hbusy : s.channelBusy = true) : Takes s (.send f k) (.blocked (.send f k) s)
  | frameSent {f k} (hfree : s.channelBusy = false) : Takes s (.send f k) (.go (.await f k) (s.emit [.sent f]))
  | noAnswer {f k} (hnone : s.answers = []) : Takes s (.await f k) (.blocked (.await f k) s)
  | answerTaken {f k a rest} (hnext : s.answers = a :: rest) :
    Takes s (.await f k) (.go (.answered f (f.reply a) k) { s with answers := rest })
  | returned {f a k r} (hk : k.isLife = false) : Takes s (.answered f a k) (.ret r s)
  | bringUpAborted {f a k e} (hk : k.isLife = true)
    (hphase : ∀ p : Phase, k.fits p = true → p = .probing ∨ p = .initialized) :
    Takes s (.answered f a k) (.ret (.err e) (s.setPhase .unconfigured))
  | firstWriteUndone {f a g old h e p} (hp : s.port = some p) :
    Takes s (.answered f a (.firstWrite g (.reconfigure old h)))
      (.go (.finish .active (.err e)) (s.setPort (p.setBaud old)))
  | secondWriteUndone {f a old h e p} (hp : s.port = some p) :
    Takes s (.answered f a (.secondWrite (.reconfigure old h)))
      (.go (.finish .active (.err e)) (s.setPort (p.setBaud old)))
  | seedWithdrawn {f a k e p} (hk : k.isLife = true) (hp : s.port = some p) :
    Takes s (.answered f a (.query k)) (.go (.finish .unconfigured (.err e)) (s.unsubscribe p))
  | probed {f a b} :
    Takes s (.answered f a (.version b)) (.go (.send serialInitFrame (.serialInit b)) (s.setPhase .initialized))
  | rateSent {f a b g payload} :
    Takes s (.answered f a (.serialInit b)) (.go (.send (baudFrame payload) (.firstWrite g (.configure b))) s)
  | rateRejected {f a b e} : Takes s (.answered f a (.serialInit b)) (.go (.finish .unconfigured (.err e)) s)
  | formatSent {f a g c} :
    Takes s (.answered f a (.firstWrite g c)) (.go (.send (formatFrame g) (.secondWrite c)) s)
  | formatStored {f a old g p} (hp : s.port = some p) :
    Takes s (.answered f a (.secondWrite (.reconfigure old g)))
      (.go (.finish .active (.ok .unit)) (s.setPort (p.setFormat g)))
  | linesPushed {f a b c} :
    Takes s (.answered f a (.secondWrite (.configure b))) (.go (.send (modemCtrlFrame c) (.push b)) s)
  | seedAsked {f a b k p q gs n es} (hk : k.isLife = true) (hp : s.port = some p) (hls : q.ls = p.ls)
    (hcnt : q.cnt = p.cnt) :
    Takes s (.answered f a (.push b)) (.go (.send (statusFrame s.cfg) (.query k))
      { s with port := some q, grants := gs, asked := n, out := s.out ++ es })
  | openRefused {f a p q gs n es} (hp : s.port = some p) (hls : q.ls = p.ls) (hcnt : q.cnt = p.cnt) :
    Takes s (.answered f a (.push .openPort)) (.go (.finish .unconfigured (.err .transferFailure))
      { s with port := some q, grants := gs, asked := n, out := s.out ++ es })
  | resumeRefused {f a p q gs n es} (hp : s.port = some p) (hls : q.ls = p.ls) (hcnt : q.cnt = p.cnt) :
    Takes s (.answered f a (.push (.resume true))) (.go .reportLost
      { s with port := some q, grants := gs, asked := n, out := s.out ++ es })
  | resumeKept {f a} :
    Takes s (.answered f a (.push (.resume false))) (.ret (.ok .unit) (s.setPhase .unconfigured))
  | statusStored {f a b p} (hp : s.port = some p) :
    Takes s (.answered f a (.query .direct)) (.ret (.ok .unit) (s.setPort (p.setStatus (decodeStatus b))))
  | seedStored {f a k b p} (hk : k.isLife = true) (hp : s.port = some p) :
    Takes s (.answered f a (.query k))
      (.go (.finish .active (.ok .unit)) (s.setPort (p.setStatus (decodeStatus b))))
  | breakWritten {f a active g} : Takes s (.answered f a (.breakRead active)) (.go (.send g .ret) s)
  | reconfigureEntered {b f} (hphase : s.phase = .active) :
    Takes s (.reconfigure b f) (.go (.swapBaud b (enabledFormat s.cfg f)) (s.setPhase .reconfiguring))
  | reconfigureRefused {b f} (hphase : s.phase ≠ .active) : Takes s (.reconfigure b f) (.ret .refused s)
  | rateSwapped {b g p payload} (hp : s.port = some p) :
    Takes s (.swapBaud b g) (.go (.send (baudFrame payload) (.firstWrite g (.reconfigure p.ls.baudRate g)))
      (s.setPort (p.setBaud b)))
  | swapRejected {b g p e} (hp : s.port = some p) :
    Takes s (.swapBaud b g) (.go (.rollback p.ls.baudRate e) (s.setPort (p.setBaud b)))
  | rateRestored {old e p} (hp : s.port = some p) :
    Takes s (.rollback old e) (.go (.finish .active (.err e)) (s.setPort (p.setBaud old)))
  | lossReported {p} (hp : s.port = some p) :
    Takes s .reportLost (.go (.send (statusFrame s.cfg) (.query .resume))
      ((s.setPort { p with monitorLost := true }).emit [.monitorLost]))
  | finished {q r} : Takes s (.finish q r) (.ret r (s.setPhase q))
  | released (hm : s.monitor = none) :
    Takes s .releaseWait (.ret (.ok .unit) { s with phase := .released, port := none })
  | handlerAwaited (hm : s.monitor ≠ none) : Takes s .releaseWait (.blocked .releaseWait s)
  | noPort {pos} (hp : s.port = none) (huses : pos.isLife = true ∨ pos.storesStatus = true) :
    Takes s pos (.fault .noLineState)

/-- A segment that uses the port's state, where it is one of a lifecycle operation or stores a status. -/
theorem takes_withPort {s : State} {pos : Pos} {f : Port → Seg}
    (huses : pos.isLife = true ∨ pos.storesStatus = true) (hf : ∀ p, s.port = some p → Takes s pos (f p)) :
    Takes s pos (withPort s f) := by
  obtain ⟨p, hp, heq⟩ | ⟨hp, heq⟩ := withPort_cases s f
  · exact heq ▸ hf p hp
  · exact heq ▸ .noPort hp huses

theorem takes_queryFailed (s : State) (f : Frame) (a : Answer) (k : QueryCaller) (e : ErrorKind) :
    Takes s (.answered f a (.query k)) (queryFailed k e s) := by
  cases k with
  | direct => exact .returned rfl
  | openPort => exact takes_withPort (.inl rfl) fun p hp => .seedWithdrawn rfl hp
  | resume => exact takes_withPort (.inl rfl) fun p hp => .seedWithdrawn rfl hp

theorem takes_queryDone (s : State) (f : Frame) (a : Answer) (k : QueryCaller) (bytes : List Byte) :
    Takes s (.answered f a (.query k)) (queryDone k bytes s) := by
  unfold queryDone
  cases bytes[s.cfg.statusQueryByte]? with
  | none => exact takes_queryFailed s f a k _
  | some b =>
    cases k with
    | direct => exact takes_withPort (.inr rfl) fun p hp => .statusStored hp
    | openPort => exact takes_withPort (.inl rfl) fun p hp => .seedStored rfl hp
    | resume => exact takes_withPort (.inl rfl) fun p hp => .seedStored rfl hp

theorem takes_afterFailure (s : State) (f : Frame) (a : Answer) (k : After) (e : ErrorKind) :
    Takes s (.answered f a k) (afterFailure k e s) := by
  cases k with
  | ret => exact .returned rfl
  | retBytes => exact .returned rfl
  | breakRead active => exact .returned rfl
  | version b => exact .bringUpAborted rfl fun p hp => .inl (by simpa [After.fits] using hp)
  | serialInit b => exact .bringUpAborted rfl fun p hp => .inr (by simpa [After.fits] using hp)
  | push b => exact .bringUpAborted rfl fun p hp => .inr (by simpa [After.fits] using hp)
  | query k => exact takes_queryFailed s f a k e
  | firstWrite g c =>
    cases c with
    | direct => exact .returned rfl
    | reconfigure old h => exact takes_withPort (.inl rfl) fun p hp => .firstWriteUndone hp
    | configure b => exact .bringUpAborted rfl fun p hp => .inr (by simpa [After.fits, LineCaller.fits] using hp)
  | secondWrite c =>
    cases c with
    | direct => exact .returned rfl
    | reconfigure old h => exact takes_withPort (.inl rfl) fun p hp => .secondWriteUndone hp
    | configure b => exact .bringUpAborted rfl fun p hp => .inr (by simpa [After.fits, LineCaller.fits] using hp)

theorem takes_configured (s : State) (f : Frame) (a : Answer) (b : BringUp) :
    Takes s (.answered f a (.push b)) (configured b s) := by
  fun_cases configured b s with
  | case1 =>
    refine takes_withPort (.inl rfl) fun p hp => ?_
    cases h : s.subscribe p with
    | mk g t =>
      obtain ⟨q, gs, n, es, hls, hcnt, rfl⟩ := subscribe_frame hp h
      cases g with
      | true => exact .seedAsked rfl hp hls hcnt
      | false => exact .openRefused hp hls hcnt
  | case2 =>
    refine takes_withPort (.inl rfl) fun p hp => ?_
    cases h : s.subscribe p with
    | mk g t =>
      obtain ⟨q, gs, n, es, hls, hcnt, rfl⟩ := subscribe_frame hp h
      cases g with
      | true => exact .seedAsked rfl hp hls hcnt
      | false => exact .resumeRefused hp hls hcnt
  | case3 => exact .resumeKept

theorem takes_afterSuccess (s : State) (f : Frame) (a : Answer) (k : After) (bytes : List Byte) :
    Takes s (.answered f a k) (afterSuccess k bytes s) := by
  cases k with
  | ret => exact .returned rfl
  | retBytes => exact .returned rfl
  | version b => exact .probed
  | serialInit b =>
    refine takes_withPort (.inl rfl) fun p _ => ?_
    simp only [lineStart]
    split
    · exact .rateSent
    · exact .rateRejected
  | push b => exact takes_configured s f a b
  | firstWrite g c => exact .formatSent
  | secondWrite c =>
    cases c with
    | direct => exact .returned rfl
    | reconfigure old g => exact takes_withPort (.inl rfl) fun p hp => .formatStored hp
    | configure b => exact takes_withPort (.inl rfl) fun p _ => .linesPushed
  | query k => exact takes_queryDone s f a k bytes
  | breakRead active =>
    simp only [afterSuccess]
    split
    · exact .breakWritten
    · exact .returned rfl

/-- Every segment is one of `Takes`. -/
theorem advance_takes (pos : Pos) (s : State) : Takes s pos (advance pos s) := by
  cases pos with
  | send f k =>
    simp only [advance]
    split
    next hbusy => exact .channelBusy hbusy
    next hfree => exact .frameSent (eq_false_of_ne_true hfree)
  | await f k =>
    simp only [advance]
    split
    · exact .noAnswer ‹_›
    · exact .answerTaken ‹_›
  | answered f a k =>
    simp only [advance, afterTransfer]
    split
    · exact takes_afterSuccess s f a k _
    · exact takes_afterFailure s f a k _
  | reconfigure b f =>
    simp only [advance, reconfigureEntry]
    split
    · exact .reconfigureEntered ‹_›
    · exact .reconfigureRefused ‹_›
  | swapBaud b g =>
    refine takes_withPort (.inl rfl) fun p hp => ?_
    simp only [lineStart]
    split
    · exact .rateSwapped hp
    · exact .swapRejected hp
  | rollback old e => exact takes_withPort (.inl rfl) fun p hp => .rateRestored hp
  | reportLost => exact takes_withPort (.inl rfl) fun p hp => .lossReported hp
  | finish q r => exact .finished
  | releaseWait =>
    simp only [advance]
    split
    next hm => exact .released (Option.isNone_iff_eq_none.1 hm)
    next hm => exact .handlerAwaited fun h => hm (Option.isNone_iff_eq_none.2 h)

end Sys2Proof.Machine
end

section
/-!
How an operation starts, said once: what `exec` answers before it runs (`Refused`, the host's duty) and what its first
segment comes to (`Begins`). With it stand the statements about what is refused.
-/

namespace Sys2Proof.Machine

/-! ## The operations -/

theorem exec_writeReg (sel v : U16) (s : State) : exec (.writeReg sel v) s =
    invoke (.writeReg sel v) s fun s => .go (.send (writeRegFrame sel v) .ret) s := rfl

theorem exec_readReg {sel : U16} {len : Nat} (hlen : 1 ≤ len ∧ len ≤ 65535) (s : State) :
    exec (.readReg sel len) s =
    invoke (.readReg sel len) s fun s => .go (.send (readRegFrame sel len) .retBytes) s := if_pos hlen

theorem exec_readVersion (s : State) : exec .readVersion s =
    invoke .readVersion s fun s => .go (.send readVersionFrame .retBytes) s := rfl

theorem exec_serialInit (s : State) : exec .serialInit s =
    invoke .serialInit s fun s => .go (.send serialInitFrame .ret) s := rfl

theorem exec_modemCtrl (ctl : Byte) (s : State) : exec (.modemCtrl ctl) s =
    invoke (.modemCtrl ctl) s fun s => .go (.send (modemCtrlFrame ctl) .ret) s := rfl

theorem exec_setLines (a b : Byte) (s : State) : exec (.setLines a b) s =
    invoke (.setLines a b) s fun s => withPort s fun p =>
      .go (.send (modemCtrlFrame (combineLines s.cfg p.ls.modemControl a b)) .ret)
        (s.setPort (p.setControl (combineLines s.cfg p.ls.modemControl a b))) := rfl

theorem exec_raiseLines (on : Bool) (s : State) : exec (.raiseLines on) s =
    invoke (.raiseLines on) s fun s => withPort s fun p =>
      .go (.send (modemCtrlFrame (raisedLines s.cfg p.ls.modemControl on)) .ret)
        (s.setPort (p.setControl (raisedLines s.cfg p.ls.modemControl on))) := rfl

theorem exec_getLines (s : State) : exec .getLines s =
    invoke .getLines s fun s => withPort s fun p =>
      .ret (.ok (.lines (lineRecord s.cfg p.ls.modemControl p.ls.modemStatus))) s := rfl

theorem exec_carrierPresent (s : State) : exec .carrierPresent s =
    invoke .carrierPresent s fun s => withPort s fun p =>
      .ret (.ok (.flag (carrierBit p.ls.modemStatus))) s := rfl

theorem exec_setBreak (active : Bool) (s : State) : exec (.setBreak active) s =
    invoke (.setBreak active) s fun s => .go (.send (breakReadFrame s.cfg) (.breakRead active)) s := rfl

theorem exec_statusQuery (s : State) : exec .statusQuery s =
    invokeOnPort .statusQuery s fun _ s => .go (.send (statusFrame s.cfg) (.query .direct)) s := rfl

theorem exec_subscribe (s : State) : exec .subscribe s =
    invokeOnPort .subscribe s fun p s => .ret (grantResult (s.subscribe p).1) (s.subscribe p).2 := rfl

theorem exec_unsubscribe (s : State) : exec .unsubscribe s =
    invokeOnPort .unsubscribe s fun p s => .ret (.ok .unit) (s.unsubscribe p) := rfl

theorem exec_claim (s : State) : exec .claim s =
    invoke .claim s fun s => .ret (.ok .unit) ((s.setPort (Port.atClaim s.cfg)).setPhase .unconfigured) := rfl

theorem exec_openPort (s : State) : exec .openPort s =
    invoke .openPort s fun s => .go (.send readVersionFrame (.version .openPort)) (s.setPhase .probing) := rfl

theorem exec_reconfigure (b : U32) (f : Byte) (s : State) : exec (.reconfigure b f) s =
    invoke (.reconfigure b f) s (reconfigureEntry b f) := rfl

theorem exec_setBaudRate (b : U32) (s : State) : exec (.setBaudRate b) s =
    invoke (.setBaudRate b) s fun s => withPort s fun p => .go (.reconfigure b p.ls.frameFormat) s := rfl

theorem exec_setFrameFormat (f : Byte) (s : State) : exec (.setFrameFormat f) s =
    invoke (.setFrameFormat f) s fun s => withPort s fun p => .go (.reconfigure p.ls.baudRate f) s := rfl

theorem exec_resume (s : State) : exec .resume s =
    invoke .resume s fun s => withPort s fun p =>
      .go (.send readVersionFrame (.version (.resume (s.phase == .active))))
        ((s.unsubscribe p).setPhase .probing) := rfl

theorem exec_release (s : State) : exec .release s =
    invoke .release s fun s => withPort s fun p => .go .releaseWait (s.unsubscribe p) := rfl

/-! ## First segments -/

/-- What the first segment of an operation can come to, in a phase in which it is legal. -/
inductive Begins (s : State) : Instr → Seg → Prop
  | transfer {i f k} (hi : isLifecycle i = false) (hk : k.isLife = false)
    (hquery : k.storesStatus = true → i = .statusQuery ∧ s.port ≠ none) : Begins s i (.go (.send f k) s)
  | answered {i r} (hi : isLifecycle i = false) : Begins s i (.ret r s)
  | linesSet {a b p} (hp : s.port = some p) :
    Begins s (.setLines a b) (.go (.send (modemCtrlFrame (combineLines s.cfg p.ls.modemControl a b)) .ret)
      (s.setPort (p.setControl (combineLines s.cfg p.ls.modemControl a b))))
  | linesRaised {on p} (hp : s.port = some p) :
    Begins s (.raiseLines on) (.go (.send (modemCtrlFrame (raisedLines s.cfg p.ls.modemControl on)) .ret)
      (s.setPort (p.setControl (raisedLines s.cfg p.ls.modemControl on))))
  | subscribed {p q r gs n es} (hp : s.port = some p) (hls : q.ls = p.ls) (hcnt : q.cnt = p.cnt) :
    Begins s .subscribe (.ret r { s with port := some q, grants := gs, asked := n, out := s.out ++ es })
  | unsubscribed {p} (hp : s.port = some p) : Begins s .unsubscribe (.ret (.ok .unit) (s.unsubscribe p))
  | claimed (hphase : s.phase = .released) :
    Begins s .claim (.ret (.ok .unit) ((s.setPort (Port.atClaim s.cfg)).setPhase .unconfigured))
  | opened (hphase : s.phase = .unconfigured) :
    Begins s .openPort (.go (.send readVersionFrame (.version .openPort)) (s.setPhase .probing))
  | reconfigured {b f} (hphase : s.phase = .active) :
    Begins s (.reconfigure b f) (.go (.swapBaud b (enabledFormat s.cfg f)) (s.setPhase .reconfiguring))
  | halfRead {i b f} (hi : (∃ x, i = .setBaudRate x) ∨ ∃ x, i = .setFrameFormat x) (hphase : s.phase = .active) :
    Begins s i (.go (.reconfigure b f) s)
  | resumed {p was} (hp : s.port = some p) (hphase : s.phase = .unconfigured ∨ s.phase = .active) :
    Begins s .resume (.go (.send readVersionFrame (.version (.resume was))) ((s.unsubscribe p).setPhase .probing))
  | released {p} (hp : s.port = some p) (hphase : s.phase = .unconfigured ∨ s.phase = .active) :
    Begins s .release (.go .releaseWait (s.unsubscribe p))
  | noPort {i} (hp : s.port = none) (huses : legal i .released = false) : Begins s i (.fault .noLineState)

/-- A first segment that uses the port's state, of an operation that is not legal where there is none. -/
theorem begins_withPort {s : State} {i : Instr} {f : Port → Seg} (huses : legal i .released = false)
    (hf : ∀ p, s.port = some p → Begins s i (f p)) : Begins s i (withPort s f) := by
  obtain ⟨p, hp, heq⟩ | ⟨hp, heq⟩ := withPort_cases s f
  · exact heq ▸ hf p hp
  · exact heq ▸ .noPort hp huses

/-- The operations that are answered `Refused` before the phase is looked at: READ_REGISTER with a length out of range
(R101), and the operations on the port where there is none (log entry 8). -/
def refusedAtOnce : Instr → State → Prop
  | .readReg _ len, _ => ¬(1 ≤ len ∧ len ≤ 65535)
  | .statusQuery, s => s.port = none
  | .subscribe, s => s.port = none
  | .unsubscribe, s => s.port = none
  | _, _ => False

/-- How `exec` treats an operation of the command agent: `Refused` at once, or invoked with a first segment that is one
of `Begins` where the operation is legal. -/
def Starts (i : Instr) (s : State) : Prop :=
  (refusedAtOnce i s ∧ exec i s = .next (s.respond (some i) .refused)) ∨
  (¬refusedAtOnce i s ∧ ∃ first, exec i s = invoke i s first ∧
    (legal i s.phase = true → Begins s.takeSlice i (first s.takeSlice)))

theorem starts_of_invoke {i : Instr} {s : State} {first : State → Seg} (hr : ¬refusedAtOnce i s)
    (heq : exec i s = invoke i s first) (hb : legal i s.phase = true → Begins s.takeSlice i (first s.takeSlice)) :
    Starts i s := .inr ⟨hr, first, heq, hb⟩

/-- The operations on the port: `Refused` where there is none, else invoked. -/
theorem starts_of_invokeOnPort {i : Instr} {s : State} {first : Port → State → Seg}
    (hr : refusedAtOnce i s ↔ s.port = none) (heq : exec i s = invokeOnPort i s first)
    (hb : ∀ p, s.port = some p → Begins s.takeSlice i (first p s.takeSlice)) : Starts i s := by
  unfold invokeOnPort at heq
  cases hp : s.port with
  | none => exact .inl ⟨hr.2 hp, by simpa only [hp] using heq⟩
  | some p => exact starts_of_invoke (by simp [hr, hp]) (by simpa only [hp] using heq) fun _ => hb p hp

/-- Every operation of the command agent starts in this way. -/
theorem exec_starts {i : Instr} (hn : isNotification i = false) (s : State) : Starts i s := by
  cases i with
  | notify d => cases hn
  | readReg sel len =>
    by_cases hlen : 1 ≤ len ∧ len ≤ 65535
    · exact starts_of_invoke (not_not_intro hlen) (exec_readReg hlen s) fun _ => .transfer rfl rfl nofun
    · exact .inl ⟨hlen, if_neg hlen⟩
  | statusQuery =>
    exact starts_of_invokeOnPort .rfl (exec_statusQuery s) fun p hp =>
      .transfer rfl rfl fun _ => ⟨rfl, by simp [hp]⟩
  | subscribe =>
    refine starts_of_invokeOnPort .rfl (exec_subscribe s) fun p hp => ?_
    obtain ⟨q, gs, n, es, hls, hcnt, ht⟩ := subscribe_frame (s := s.takeSlice) hp rfl
    exact ht ▸ .subscribed hp hls hcnt
  | unsubscribe => exact starts_of_invokeOnPort .rfl (exec_unsubscribe s) fun p hp => .unsubscribed hp
  | writeReg sel v => exact starts_of_invoke id (exec_writeReg sel v s) fun _ => .transfer rfl rfl nofun
  | readVersion => exact starts_of_invoke id (exec_readVersion s) fun _ => .transfer rfl rfl nofun
  | serialInit => exact starts_of_invoke id (exec_serialInit s) fun _ => .transfer rfl rfl nofun
  | modemCtrl ctl => exact starts_of_invoke id (exec_modemCtrl ctl s) fun _ => .transfer rfl rfl nofun
  | setBreak on => exact starts_of_invoke id (exec_setBreak on s) fun _ => .transfer rfl rfl nofun
  | synthesize b =>
    refine starts_of_invoke id (exec_synthesize b s) fun _ => ?_
    split
    · exact .answered rfl
    · exact .answered rfl
  | programLine b f =>
    refine starts_of_invoke id (exec_programLine b f s) fun _ => ?_
    simp only [lineStart]
    split
    · exact .transfer rfl rfl nofun
    · exact .answered rfl
  | getLines =>
    exact starts_of_invoke id (exec_getLines s) fun _ => begins_withPort rfl fun _ _ => .answered rfl
  | carrierPresent =>
    exact starts_of_invoke id (exec_carrierPresent s) fun _ => begins_withPort rfl fun _ _ => .answered rfl
  | setLines a b =>
    exact starts_of_invoke id (exec_setLines a b s) fun _ => begins_withPort rfl fun _ hp => .linesSet hp
  | raiseLines on =>
    exact starts_of_invoke id (exec_raiseLines on s) fun _ => begins_withPort rfl fun _ hp => .linesRaised hp
  | claim =>
    exact starts_of_invoke id (exec_claim s) fun hl => .claimed (by simpa [legal] using hl)
  | openPort =>
    exact starts_of_invoke id (exec_openPort s) fun hl => .opened (by simpa [legal] using hl)
  | reconfigure b f =>
    refine starts_of_invoke id (exec_reconfigure b f s) fun hl => ?_
    have hphase : s.takeSlice.phase = .active := by simpa [legal] using hl
    rw [reconfigureEntry, if_pos hphase]
    exact .reconfigured hphase
  | setBaudRate b =>
    exact starts_of_invoke id (exec_setBaudRate b s) fun hl =>
      begins_withPort rfl fun _ _ => .halfRead (.inl ⟨b, rfl⟩) (by simpa [legal] using hl)
  | setFrameFormat f =>
    exact starts_of_invoke id (exec_setFrameFormat f s) fun hl =>
      begins_withPort rfl fun _ _ => .halfRead (.inr ⟨f, rfl⟩) (by simpa [legal] using hl)
  | resume =>
    exact starts_of_invoke id (exec_resume s) fun hl =>
      begins_withPort rfl fun _ hp => .resumed hp (by simpa [legal] using hl)
  | release =>
    exact starts_of_invoke id (exec_release s) fun hl =>
      begins_withPort rfl fun _ hp => .released hp (by simpa [legal] using hl)

/-- An operation of the command agent is answered `Refused`, refused by the host's duty, or runs from a first segment of
`Begins`. -/
theorem exec_cases {i : Instr} (hn : isNotification i = false) (s : State) :
    exec i s = .next (s.respond (some i) .refused) ∨ (dutyKept i s = false ∧ exec i s = .refused .hostDuty) ∨
    ∃ seg, legal i s.phase = true ∧ dutyKept i s = true ∧ exec i s = drive s.slice i seg ∧
      Begins s.takeSlice i seg := by
  obtain ⟨-, heq⟩ | ⟨-, first, heq, hb⟩ := exec_starts hn s
  · exact .inl heq
  · obtain ⟨-, hi⟩ | ⟨-, hd, hi⟩ | ⟨hl, hd, hi⟩ := invoke_cases i s first
    · exact .inl (heq.trans hi)
    · exact .inr (.inl ⟨hd, heq.trans hi⟩)
    · exact .inr (.inr ⟨_, hl, hd, heq.trans hi, hb hl⟩)

/-! ## What is refused (R201, R211, R234) -/

theorem isNotification_of_illegal {i : Instr} {p : Phase} (h : legal i p = false) : isNotification i = false := by
  cases i with
  | notify d => cases h
  | _ => rfl

theorem exec_of_illegal {i : Instr} {s : State} (h : legal i s.phase = false) :
    exec i s = .next (s.respond (some i) .refused) := by
  obtain ⟨-, heq⟩ | ⟨-, first, heq, -⟩ := exec_starts (isNotification_of_illegal h) s
  · exact heq
  · rw [heq]
    simp [invoke, h]

theorem isNotification_of_refusedAtOnce {i : Instr} {s : State} (h : refusedAtOnce i s) : isNotification i = false := by
  cases i with
  | notify d => exact h.elim
  | _ => rfl

theorem exec_of_refusedAtOnce {i : Instr} {s : State} (h : refusedAtOnce i s) :
    exec i s = .next (s.respond (some i) .refused) := by
  obtain ⟨-, heq⟩ | ⟨hr, -⟩ := exec_starts (isNotification_of_refusedAtOnce h) s
  · exact heq
  · exact absurd h hr

/-! ### Encoded objects at the input ports -/

theorem step_call_ok {s : State} {e : Encoded} {rest : List Input} {i : Instr} (h : s.inbox = .call e :: rest)
    (hd : decode e = .ok i) : step s = exec i { s with inbox := rest } := by
  simp only [step, State.fetch, h, hd]

theorem step_call_error {s : State} {e : Encoded} {rest : List Input} {r : DecodeError}
    (h : s.inbox = .call e :: rest) (hd : decode e = .error r) :
    step s = unknownObject r { s with inbox := rest } := by
  simp only [step, State.fetch, h, hd]

/-- Settles O6. -/
theorem stepRunsDecoded : Obligations.StepRunsDecoded :=
  fun _ _ _ _ h hd _ => step_call_ok h hd

/-- A command word whose `op` is not in R84's table is unknown. -/
theorem decodeCmd48_unknown {c : CommandWord}
    (h : c.op ∉ ([0x01, 0x02, 0x03, 0x04, 0x05, 0x06, 0x07, 0x08, 0x09, 0x0A, 0x0B, 0x0C,
      0x80, 0x81, 0x82, 0x83, 0x84] : List Byte)) : decodeCmd48 c = .error .unknownOp := by
  simp only [List.mem_cons, List.not_mem_nil, or_false, not_or] at h
  simp only [decodeCmd48, h, if_false]

/-- Settles O7: the legality table's rows, the range of a read's length, and the unknown command word. -/
theorem refusedChangesNothing : Obligations.RefusedChangesNothing := by
  intro s
  refine ⟨fun i h => ?_, fun c rest hop hin => ?_⟩
  · rcases h with ⟨rfl, h⟩ | ⟨rfl, h⟩ | ⟨⟨b, f, rfl⟩ | ⟨b, rfl⟩ | ⟨f, rfl⟩, h⟩ |
      ⟨rfl | rfl, h, h'⟩ | ⟨⟨a, b, rfl⟩ | ⟨on, rfl⟩ | ⟨on, rfl⟩, h, h'⟩ | ⟨rfl | rfl, h⟩ | ⟨sel, len, rfl, hlen⟩
    case inr.inr.inr.inr.inr.inr =>
      exact exec_of_refusedAtOnce (show ¬(1 ≤ len ∧ len ≤ 65535) by omega)
    all_goals exact exec_of_illegal (by simp [legal, *])
  · exact step_call_error hin (decodeCmd48_unknown hop)

/-- Settles O8: with no port these three are refused at once. -/
theorem noPortIsRefused : Obligations.NoPortIsRefused :=
  fun _ _ hp hi => exec_of_refusedAtOnce (by rcases hi with rfl | rfl | rfl <;> exact hp)

/-! ## The host's duty (R211) -/

/-- RESUME and RELEASE alone need the command agent for themselves. -/
theorem needsQuiet_iff (i : Instr) : needsQuiet i = true ↔ i = .resume ∨ i = .release := by
  cases i <;> simp [needsQuiet]

/-- The three ways to break the duty with an operation that is no notification. -/
theorem dutyKept_eq_false_iff {i : Instr} (hn : isNotification i = false) (s : State) :
    dutyKept i s = false ↔
      (isLifecycle i = true ∧ ∃ t ∈ s.pool, isLifecycle t.op = true) ∨
        ((i = .resume ∨ i = .release) ∧ s.pool ≠ []) ∨ ∃ t ∈ s.pool, t.op = .resume ∨ t.op = .release := by
  rw [← Bool.not_eq_true, dutyKept_iff, ← needsQuiet_iff]
  simp only [← needsQuiet_iff, hn, true_implies, Classical.not_and_iff_not_or_not, Classical.not_imp, not_forall,
    Bool.not_eq_false, ne_eq]

theorem isNotification_eq_false_iff (i : Instr) : isNotification i = false ↔ ∀ d, i ≠ .notify d := by
  cases i <;> simp [isNotification]

theorem not_refusedAtOnce_iff (i : Instr) (s : State) :
    ¬refusedAtOnce i s ↔ (∀ sel len, i = .readReg sel len → 1 ≤ len ∧ len ≤ 65535) ∧
      (i = .statusQuery ∨ i = .subscribe ∨ i = .unsubscribe → s.port ≠ none) := by
  cases i <;> simp [refusedAtOnce]

theorem monitorOnPort_not_refused (s : State) (f : Port → State) (r : Refusal) : monitorOnPort s f ≠ .refused r := by
  unfold monitorOnPort
  split <;> simp

theorem monitorSegment_not_refused (m : MonPos) (s : State) (r : Refusal) : monitorSegment m s ≠ .refused r := by
  fun_cases monitorSegment m s with
  | case1 => exact monitorOnPort_not_refused _ _ _
  | case2 => simp
  | case3 => exact monitorOnPort_not_refused _ _ _
  | case4 => exact monitorOnPort_not_refused _ _ _

theorem runMonitor_not_refused (n : Nat) (s : State) (r : Refusal) : runMonitor n s ≠ .refused r := by
  induction n generalizing s with
  | zero => simp [runMonitor]
  | succ n ih =>
    rw [runMonitor]
    split
    · simp
    · split
      · exact ih _
      · simp
      · next h => exact absurd h (monitorSegment_not_refused _ _ _)

theorem exec_notify_not_refused (d : Delivery) (s : State) (r : Refusal) : exec (.notify d) s ≠ .refused r := by
  rw [exec_notify, execNotify]
  split
  · exact runMonitor_not_refused _ _ _
  · simp

/-- An operation of the command agent is refused by the duty alone, after the tests that answer `Refused`. -/
theorem exec_refused_iff {i : Instr} (hn : isNotification i = false) (s : State) (r : Refusal) :
    exec i s = .refused r ↔
      r = .hostDuty ∧ legal i s.phase = true ∧ ¬refusedAtOnce i s ∧ dutyKept i s = false := by
  obtain ⟨hr, heq⟩ | ⟨hr, first, heq, -⟩ := exec_starts hn s
  · simp [heq, hr]
  · obtain ⟨hl, hi⟩ | ⟨hl, hd, hi⟩ | ⟨hl, hd, hi⟩ := invoke_cases i s first
    · simp [heq, hi, hl]
    · simp [heq, hi, hl, hd, hr, eq_comm]
    · simp [heq, hi, hd, drive_not_refused]

/-- Settles O9: the refusal is `invoke`'s, after its test of the phase. -/
theorem onlyBrokenDutyIsRefused : Obligations.OnlyBrokenDutyIsRefused := by
  intro i s r
  rw [← isNotification_eq_false_iff]
  cases hn : isNotification i with
  | true =>
    cases i with
    | notify d => simp [exec_notify_not_refused]
    | _ => cases hn
  | false =>
    rw [exec_refused_iff hn, not_refusedAtOnce_iff, dutyKept_eq_false_iff hn]
    simp only [true_and, and_assoc]

end Sys2Proof.Machine
end

section
/-!
The invariant (`State.Inv`), one invocation at a time. It is split into what it asks of the invocation that moves
(`Standing`) and of the state around it (`Surroundings`); a segment keeps the second by what it leaves alone (`Kept`)
and the first by where it goes (`Pos.Leads`).
-/

namespace Sys2Proof.Machine

/-! ## The two parts of the invariant -/

/-- What the invariant asks of one invocation in progress. -/
structure Standing (op : Instr) (pos : Pos) (s : State) : Prop where
  kind : isLifecycle op = pos.isLife
  fits : pos.isLife = true → pos.fits s.phase = true ∧ s.port ≠ none
  enabled : pos.enabled s.cfg = true
  releasing : pos = .releaseWait → op = .release
  noLateQuery : s.port = none → pos.storesStatus = false
  reply : pos.replyFits = true

/-- What the invariant asks of the state around an invocation of `op` that moves and is not in the list. -/
structure Surroundings (op : Instr) (s : State) : Prop where
  params : s.cfg.Ok
  exists_iff : s.port = none ↔ s.phase = .released
  legal : ∀ p, s.port = some p → p.ls.Legal s.cfg
  handled : s.monitor ≠ none → s.port ≠ none
  others : ∀ t ∈ s.pool, Standing t.op t.pos s
  oneTransfer : s.pool.countP (fun t => t.pos.onChannel) ≤ 1
  oneLifecycle : s.pool.countP (fun t => isLifecycle t.op) ≤ 1
  noOtherLifecycle : isLifecycle op = true → ∀ t ∈ s.pool, isLifecycle t.op = false
  quiet : needsQuiet op = true → s.pool = []
  noQuiet : ∀ t ∈ s.pool, needsQuiet t.op = false
  passing : s.phase.passing = true → isLifecycle op = true ∨ ∃ t ∈ s.pool, t.pos.isLife = true

theorem State.Inv.standing {s : State} (h : s.Inv) {t : Task} (ht : t ∈ s.pool) : Standing t.op t.pos s where
  kind := h.kinds t ht
  fits := h.fits t ht
  enabled := h.enabled t ht
  releasing := h.releasing t ht
  noLateQuery hp := h.noLateQuery hp t ht
  reply := h.replies t ht

/-- A frame is on the channel exactly when an invocation in progress waits for its completion. -/
theorem channelBusy_eq (s : State) : s.channelBusy = s.pool.any fun t => t.pos.onChannel := by
  have h : ∀ t : Task, (match t.pos with | .await _ _ => true | _ => false) = t.pos.onChannel := by
    rintro ⟨op, pos⟩
    cases pos <;> rfl
  simp only [State.channelBusy]
  exact congrArg s.pool.any (funext h)

theorem channelBusy_eq_false_iff (s : State) :
    s.channelBusy = false ↔ s.pool.countP (fun t => t.pos.onChannel) = 0 := by
  rw [channelBusy_eq, List.countP_eq_zero, List.any_eq_false]

/-- The invariant depends on the parameters, the phase, the port, the list and the handler only. -/
theorem State.Inv.congr {s t : State} (h : s.Inv) (hcfg : t.cfg = s.cfg) (hphase : t.phase = s.phase)
    (hport : t.port = s.port) (hpool : t.pool = s.pool) (hmonitor : t.monitor = s.monitor) : t.Inv := by
  obtain ⟨cfg, phase, port, pool, monitor⟩ := s
  obtain ⟨cfg', phase', port', pool', monitor'⟩ := t
  simp only at hcfg hphase hport hpool hmonitor
  subst hcfg hphase hport hpool hmonitor
  obtain ⟨h1, h2, h3, h4, h5, h6, h7, h8, h9, h10, h11, h12, h13, h14⟩ := h
  exact ⟨h1, h2, h3, h4, h5, h6, h7, h8, h9, h10, h11, h12, h13, h14⟩

/-- Nor does it depend on the order of the list. -/
theorem State.Inv.perm {s : State} (h : s.Inv) {l : List Task} (hl : l.Perm s.pool) : { s with pool := l }.Inv where
  params := h.params
  exists_iff := h.exists_iff
  legal := h.legal
  handled := h.handled
  kinds t ht := h.kinds t (hl.mem_iff.1 ht)
  oneLifecycle := (hl.countP_eq _).trans_le h.oneLifecycle
  fits t ht := h.fits t (hl.mem_iff.1 ht)
  passing hp := (h.passing hp).imp fun _ ht => ⟨hl.mem_iff.2 ht.1, ht.2⟩
  oneTransfer := (hl.countP_eq _).trans_le h.oneTransfer
  enabled t ht := h.enabled t (hl.mem_iff.1 ht)
  alone t ht hq := List.perm_singleton.1 (h.alone t (hl.mem_iff.1 ht) hq ▸ hl)
  releasing t ht := h.releasing t (hl.mem_iff.1 ht)
  noLateQuery hp t ht := h.noLateQuery hp t (hl.mem_iff.1 ht)
  replies t ht := h.replies t (hl.mem_iff.1 ht)

/-- A state in which no invocation moves. -/
theorem Surroundings.inv {op : Instr} {s : State} (h : Surroundings op s)
    (hpassing : s.phase.passing = true → ∃ t ∈ s.pool, t.pos.isLife = true) : s.Inv where
  params := h.params
  exists_iff := h.exists_iff
  legal := h.legal
  handled := h.handled
  kinds t ht := (h.others t ht).kind
  oneLifecycle := h.oneLifecycle
  fits t ht := (h.others t ht).fits
  passing := hpassing
  oneTransfer := h.oneTransfer
  enabled t ht := (h.others t ht).enabled
  alone t ht hq := by simp [h.noQuiet t ht] at hq
  releasing t ht := (h.others t ht).releasing
  noLateQuery hp t ht := (h.others t ht).noLateQuery hp
  replies t ht := (h.others t ht).reply

/-- What holds of a list and of one more element. -/
theorem forall_mem_concat {α : Type} {p : α → Prop} {l : List α} {a : α} (hl : ∀ x ∈ l, p x) (ha : p a) :
    ∀ x ∈ l ++ [a], p x := by
  intro x hx
  rcases List.mem_append.1 hx with h | h
  · exact hl x h
  · exact List.mem_singleton.1 h ▸ ha

/-- The invocation that moved is parked. -/
theorem Surroundings.park {op : Instr} {pos : Pos} {s : State} (h : Surroundings op s) (hs : Standing op pos s)
    (hchannel : pos.onChannel = true → s.channelBusy = false) : (s.park op pos).Inv where
  params := h.params
  exists_iff := h.exists_iff
  legal := h.legal
  handled := h.handled
  kinds := forall_mem_concat (fun t ht => (h.others t ht).kind) hs.kind
  oneLifecycle := by
    rw [State.park_pool, List.countP_append, List.countP_singleton]
    split
    next hop => simpa [List.countP_eq_zero] using h.noOtherLifecycle hop
    next => exact h.oneLifecycle
  fits := forall_mem_concat (fun t ht => (h.others t ht).fits) hs.fits
  passing hp := by
    rcases h.passing hp with hop | ⟨t, ht, hlife⟩
    · exact ⟨_, List.mem_append_right _ (List.mem_singleton_self _), hs.kind.symm.trans hop⟩
    · exact ⟨t, List.mem_append_left _ ht, hlife⟩
  oneTransfer := by
    rw [State.park_pool, List.countP_append, List.countP_singleton]
    split
    next hpos => simp [(channelBusy_eq_false_iff s).1 (hchannel hpos)]
    next => exact h.oneTransfer
  enabled := forall_mem_concat (fun t ht => (h.others t ht).enabled) hs.enabled
  alone := forall_mem_concat (fun t ht hq => by simp [h.noQuiet t ht] at hq) fun hq => by
    rw [State.park_pool, h.quiet hq, List.nil_append]
  releasing := forall_mem_concat (fun t ht => (h.others t ht).releasing) hs.releasing
  noLateQuery hp := forall_mem_concat (fun t ht => (h.others t ht).noLateQuery hp) (hs.noLateQuery hp)
  replies := forall_mem_concat (fun t ht => (h.others t ht).reply) hs.reply

/-- The invocation parked last moves on: it stands as the invariant asks. -/
theorem State.Inv.standing_park {op : Instr} {pos : Pos} {s : State} (h : (s.park op pos).Inv) : Standing op pos s := by
  obtain ⟨hkind, hfits, henabled, hreleasing, hlate, hreply⟩ :=
    h.standing (t := ⟨op, pos⟩) (List.mem_append_right _ (List.mem_singleton_self _))
  exact ⟨hkind, hfits, henabled, hreleasing, hlate, hreply⟩

/-- The invocation parked last moves on, and so does the state around it. -/
theorem State.Inv.surroundings_park {op : Instr} {pos : Pos} {s : State} (h : (s.park op pos).Inv) :
    Surroundings op s where
  params := h.params
  exists_iff := h.exists_iff
  legal := h.legal
  handled := h.handled
  others t ht := by
    obtain ⟨hkind, hfits, henabled, hreleasing, hlate, hreply⟩ := h.standing (List.mem_append_left _ ht)
    exact ⟨hkind, hfits, henabled, hreleasing, hlate, hreply⟩
  oneTransfer := by
    have hone := h.oneTransfer
    rw [State.park_pool, List.countP_append] at hone
    omega
  oneLifecycle := by
    have hone := h.oneLifecycle
    rw [State.park_pool, List.countP_append] at hone
    omega
  noOtherLifecycle hop := by
    have hone := h.oneLifecycle
    rw [State.park_pool, List.countP_append, List.countP_singleton, if_pos hop] at hone
    have hzero : s.pool.countP (fun t => isLifecycle t.op) = 0 := by omega
    simpa [List.countP_eq_zero] using hzero
  quiet hq := by
    have hone := h.alone ⟨op, pos⟩ (List.mem_append_right _ (List.mem_singleton_self _)) hq
    simpa using hone
  noQuiet t ht := by
    refine eq_false_of_ne_true fun hq => ?_
    have hone := congrArg List.length (h.alone t (List.mem_append_left _ ht) hq)
    have hpos : 0 < s.pool.length := List.length_pos_of_mem ht
    simp only [State.park_pool, List.length_append, List.length_singleton] at hone
    omega
  passing hp := by
    obtain ⟨t, ht, hlife⟩ := h.passing hp
    rcases List.mem_append.1 ht with ht | ht
    · exact .inr ⟨t, ht, hlife⟩
    · cases List.mem_singleton.1 ht
      exact .inl (h.standing_park.kind.trans hlife)

/-- The host starts an operation within its duty: the state around it is as the invariant asks. -/
theorem State.Inv.surroundings_start {op : Instr} {s : State} (h : s.Inv) (hn : isNotification op = false)
    (hd : dutyKept op s = true) : Surroundings op s where
  params := h.params
  exists_iff := h.exists_iff
  legal := h.legal
  handled := h.handled
  others _ := h.standing
  oneTransfer := h.oneTransfer
  oneLifecycle := h.oneLifecycle
  noOtherLifecycle := ((dutyKept_iff op s).1 hd).1
  quiet := ((dutyKept_iff op s).1 hd).2.1
  noQuiet := ((dutyKept_iff op s).1 hd).2.2 hn
  passing hp := .inr (h.passing hp)

/-! ## What a segment leaves alone -/

/-- What every segment but RELEASE's last leaves alone: the parameters, the list, the handler, whether the port exists
and, but for a lifecycle operation, the phase. -/
structure Kept (op : Instr) (s t : State) : Prop where
  cfg : t.cfg = s.cfg
  pool : t.pool = s.pool
  monitor : t.monitor = s.monitor
  port : t.port = none ↔ s.port = none
  legal : ∀ q, t.port = some q → q.ls.Legal s.cfg
  phase : t.phase = s.phase ∨ (isLifecycle op = true ∧ s.phase ≠ .released ∧ t.phase ≠ .released)

theorem Standing.mono {op : Instr} {pos : Pos} {s t : State} (h : Standing op pos s) (hcfg : t.cfg = s.cfg)
    (hport : t.port = none ↔ s.port = none) (hphase : pos.isLife = true → t.phase = s.phase) : Standing op pos t where
  kind := h.kind
  fits hl := by
    rw [hphase hl, Ne, hport]
    exact h.fits hl
  enabled := hcfg ▸ h.enabled
  releasing := h.releasing
  noLateQuery hp := h.noLateQuery (hport.1 hp)
  reply := h.reply

theorem Surroundings.keep {op : Instr} {s t : State} (h : Surroundings op s) (hk : Kept op s t) :
    Surroundings op t where
  params := hk.cfg ▸ h.params
  exists_iff := by
    rw [hk.port, h.exists_iff]
    rcases hk.phase with hsame | ⟨-, hs, ht⟩
    · rw [hsame]
    · simp [hs, ht]
  legal q hq := hk.cfg ▸ hk.legal q hq
  handled := by
    rw [hk.monitor, Ne, Ne, hk.port]
    exact h.handled
  others x hx := by
    have hx' : x ∈ s.pool := hk.pool ▸ hx
    refine (h.others x hx').mono hk.cfg hk.port fun hl => hk.phase.resolve_right fun hop => ?_
    rw [← (h.others x hx').kind, h.noOtherLifecycle hop.1 x hx'] at hl
    cases hl
  oneTransfer := hk.pool ▸ h.oneTransfer
  oneLifecycle := hk.pool ▸ h.oneLifecycle
  noOtherLifecycle := hk.pool ▸ h.noOtherLifecycle
  quiet := hk.pool ▸ h.quiet
  noQuiet := hk.pool ▸ h.noQuiet
  passing hp := by
    rcases hk.phase with hsame | ⟨hop, -⟩
    · rw [hk.pool]
      exact h.passing (hsame ▸ hp)
    · exact .inl hop

/-- An invocation that returns with the phase settled. -/
theorem Surroundings.ret {op : Instr} {s t : State} (h : Surroundings op s) (hk : Kept op s t)
    (hpassing : isLifecycle op = true → t.phase.passing = false) {r : Result} :
    (Seg.ret r t).Sat (fun op pos t => (t.park op pos).Inv) State.Inv op := by
  have hinv : t.Inv := (h.keep hk).inv fun hp => ((h.keep hk).passing hp).resolve_left fun hop => by
    simp [hpassing hop] at hp
  exact hinv.congr rfl rfl rfl rfl rfl

/-! ## What is kept, update by update -/

theorem Kept.same {op : Instr} {s t : State} (h : Surroundings op s) (hcfg : t.cfg = s.cfg) (hpool : t.pool = s.pool)
    (hmonitor : t.monitor = s.monitor) (hport : t.port = s.port) (hphase : t.phase = s.phase) : Kept op s t :=
  ⟨hcfg, hpool, hmonitor, by rw [hport], fun q hq => h.legal q (hport ▸ hq), .inl hphase⟩

/-- A segment that writes the port's state and leaves the phase. -/
theorem Kept.writePort {op : Instr} {s t : State} {p q : Port} (h : Surroundings op s) (hp : s.port = some p)
    (hcfg : t.cfg = s.cfg) (hpool : t.pool = s.pool) (hmonitor : t.monitor = s.monitor) (hq : t.port = some q)
    (hphase : t.phase = s.phase) (hlegal : p.ls.Legal s.cfg → q.ls.Legal s.cfg) : Kept op s t :=
  ⟨hcfg, hpool, hmonitor, by simp [hp, hq],
    fun q' hq' => Option.some.inj (hq.symm.trans hq') ▸ hlegal (h.legal p hp), .inl hphase⟩

/-- A segment of a lifecycle operation that writes the phase. -/
theorem Kept.setPhase {op : Instr} {s : State} (h : Surroundings op s) {q : Phase} (hop : isLifecycle op = true)
    (hp : s.port ≠ none) (hq : q ≠ .released) : Kept op s (s.setPhase q) :=
  ⟨rfl, rfl, rfl, .rfl, h.legal, .inr ⟨hop, fun hr => hp (h.exists_iff.2 hr), hq⟩⟩

/-! ## Where a segment goes -/

/-- The position a segment leads to, against the one it is taken at, as far as the invariant looks at positions. -/
structure Pos.Leads (s t : State) (pos pos' : Pos) : Prop where
  life : pos'.isLife = pos.isLife
  fits : pos.isLife = true → pos.fits s.phase = true → pos'.fits t.phase = true
  enabled : pos.enabled s.cfg = true → pos'.enabled s.cfg = true
  moves : pos' ≠ .releaseWait
  stores : pos'.storesStatus = pos.storesStatus
  reply : pos'.replyFits = true

theorem Standing.lead {op : Instr} {pos pos' : Pos} {s t : State} (h : Standing op pos s) (hk : Kept op s t)
    (hl : pos.Leads s t pos') : Standing op pos' t where
  kind := h.kind.trans hl.life.symm
  fits hlife := by
    have hpos := hl.life ▸ hlife
    exact ⟨hl.fits hpos (h.fits hpos).1, by rw [Ne, hk.port]; exact (h.fits hpos).2⟩
  enabled := hk.cfg ▸ hl.enabled h.enabled
  releasing hw := absurd hw hl.moves
  noLateQuery hp := hl.stores.trans (h.noLateQuery (hk.port.1 hp))
  reply := hl.reply

/-- A segment that goes on keeps the invariant. -/
theorem Surroundings.go {op : Instr} {pos pos' : Pos} {s t : State} (h : Surroundings op s) (hs : Standing op pos s)
    (hk : Kept op s t) (hl : pos.Leads s t pos') (hchannel : pos'.onChannel = false ∨ s.channelBusy = false) :
    (t.park op pos').Inv :=
  (h.keep hk).park (hs.lead hk hl) fun hc => by
    rw [channelBusy_congr hk.pool]
    exact hchannel.resolve_left (by simp [hc])

/-! ## The bits of LineState (R22 to R24) -/

theorem and_not8_of_and (a m : Byte) : (a &&& m) &&& not8 m = 0 := by
  rw [not8, BitVec.and_assoc, BitVec.and_not_self]
  exact BitVec.and_zero

theorem decodeStatus_legal (b : Byte) : decodeStatus b &&& not8 Config.statusMask = 0 := and_not8_of_and _ _

theorem LineState.Legal.setStatus {c : Config.Params} {p : Port} (h : p.ls.Legal c) (b : Byte) :
    (p.setStatus (decodeStatus b)).ls.Legal c :=
  ⟨h.1, h.2.1, h.2.2.1, decodeStatus_legal b⟩

theorem bothEnabled_iff (c : Config.Params) (f : Byte) :
    bothEnabled c f = true ↔ f &&& c.ffRxEn = c.ffRxEn ∧ f &&& c.ffTxEn = c.ffTxEn := by
  simp [bothEnabled]

theorem LineState.Legal.setFormat {c : Config.Params} {p : Port} (h : p.ls.Legal c) {f : Byte}
    (hf : bothEnabled c f = true) : (p.setFormat f).ls.Legal c :=
  ⟨((bothEnabled_iff c f).1 hf).1, ((bothEnabled_iff c f).1 hf).2, h.2.2⟩

theorem bothEnabled_enabledFormat (c : Config.Params) (f : Byte) : bothEnabled c (enabledFormat c f) = true :=
  (bothEnabled_iff c _).2 ⟨Config.or_or_and_middle f c.ffRxEn c.ffTxEn, Config.or_and_self_right _ c.ffTxEn⟩

/-- No bit outside the mask, bit by bit. -/
theorem and_not8_eq_zero_iff (a m : Byte) :
    a &&& not8 m = 0 ↔ ∀ i (_ : i < 8), a[i] = true → m[i] = true := by
  constructor
  · intro h i hi ha
    have hbit := congrArg (·.getLsbD i) h
    simpa [not8, hi, ha] using hbit
  · intro h
    ext i hi
    simpa [not8] using h i hi

theorem combineLines_legal {c : Config.Params} {control : Byte} (h : control &&& not8 (ctrlMask c) = 0) (a b : Byte) :
    combineLines c control a b &&& not8 (ctrlMask c) = 0 := by
  rw [and_not8_eq_zero_iff] at h ⊢
  intro i hi hbit
  simp only [combineLines, BitVec.getElem_and, BitVec.getElem_or, Bool.and_eq_true, Bool.or_eq_true] at hbit
  obtain ⟨hold | ⟨-, hset⟩, -⟩ := hbit
  · exact h i hi hold
  · exact hset

theorem raisedLines_legal {c : Config.Params} {control : Byte} (h : control &&& not8 (ctrlMask c) = 0) (on : Bool) :
    raisedLines c control on &&& not8 (ctrlMask c) = 0 := by
  rw [and_not8_eq_zero_iff] at h ⊢
  intro i hi hbit
  cases on with
  | true =>
    simp only [raisedLines, if_true, BitVec.getElem_or, Bool.or_eq_true] at hbit
    exact hbit.elim (h i hi) id
  | false =>
    simp only [raisedLines, Bool.false_eq_true, if_false, BitVec.getElem_and, Bool.and_eq_true] at hbit
    exact h i hi hbit.1

theorem LineState.Legal.setControl {c : Config.Params} {p : Port} (h : p.ls.Legal c) {m : Byte}
    (hm : m &&& not8 (ctrlMask c) = 0) : (p.setControl m).ls.Legal c :=
  ⟨h.1, h.2.1, hm, h.2.2.2⟩

theorem atClaim_legal {c : Config.Params} (h : c.Ok) : (Port.atClaim c).ls.Legal c := by
  obtain ⟨-, -, -, -, -, -, hr, ht, -⟩ := h
  exact ⟨hr, ht, BitVec.zero_and, BitVec.zero_and⟩

/-! ## Every further segment keeps the invariant -/

theorem Phase.endsIn_settled {p q : Phase} (h : p.endsIn q = true) : q.passing = false ∧ q ≠ .released := by
  cases q <;> simp_all [Phase.endsIn, Phase.passing]

theorem endsIn_of_initialized {p q : Phase} (hq : q = .active ∨ q = .unconfigured) (h : (p == .initialized) = true) :
    p.endsIn q = true := by
  rcases hq with rfl | rfl <;> simp [Phase.endsIn, h]

theorem endsIn_of_reconfiguring {p : Phase} (h : (p == .reconfiguring) = true) : p.endsIn .active = true := by
  simp [Phase.endsIn, h]

/-- The seed is asked for in `Initialized`, by OPEN and by RESUME. -/
theorem fits_query {k : QueryCaller} (hk : k.isLife = true) (p : Phase) : k.fits p = (p == .initialized) := by
  cases k with
  | direct => cases hk
  | openPort => rfl
  | resume => rfl

theorem storesStatus_query {k : QueryCaller} (hk : k.isLife = true) : (After.query k).storesStatus = false := by
  simp [After.storesStatus, hk]

/-- The channel's answer fits its frame (R64). -/
theorem replyFits_reply (f : Frame) (a : Answer) (k : After) : (Pos.answered f (f.reply a) k).replyFits = true := by
  cases a with
  | fail => rfl
  | ok bytes => exact decide_eq_true (reply_length (f := f) (a := .ok bytes) rfl)

/-- With nothing in progress the invariant is about the port and the phase alone. -/
theorem inv_of_pool_nil {s : State} (hpool : s.pool = []) (hparams : s.cfg.Ok)
    (hexists : s.port = none ↔ s.phase = .released) (hlegal : ∀ p, s.port = some p → p.ls.Legal s.cfg)
    (hhandled : s.monitor ≠ none → s.port ≠ none) (hpassing : s.phase.passing = false) : s.Inv := by
  have hnone (t : Task) : t ∉ s.pool := by simp [hpool]
  exact {
    params := hparams
    exists_iff := hexists
    legal := hlegal
    handled := hhandled
    kinds := fun t ht => absurd ht (hnone t)
    oneLifecycle := by simp [hpool]
    fits := fun t ht => absurd ht (hnone t)
    passing := by simp [hpassing]
    oneTransfer := by simp [hpool]
    enabled := fun t ht => absurd ht (hnone t)
    alone := fun t ht => absurd ht (hnone t)
    releasing := fun t ht => absurd ht (hnone t)
    noLateQuery := fun _ t ht => absurd ht (hnone t)
    replies := fun t ht => absurd ht (hnone t) }

/-- RELEASE's last segment: the port is discarded while nothing else is in progress (R210). -/
theorem Surroundings.release {op : Instr} {s : State} (h : Surroundings op s) (hop : op = .release)
    (hm : s.monitor = none) {i : Option Instr} {r : Result} :
    ({ s with phase := .released, port := none }.respond i r : State).Inv :=
  inv_of_pool_nil (h.quiet (hop ▸ rfl)) h.params (by simp) nofun (fun hh => absurd hm hh) rfl

/-- A segment of an invocation, in a state with the invariant, leads to states with the invariant. -/
theorem Takes.keeps_inv {op : Instr} {pos : Pos} {s : State} {seg : Seg} (ht : Takes s pos seg)
    (h : Surroundings op s) (hs : Standing op pos s) (hchannel : pos.onChannel = true → s.channelBusy = false) :
    seg.Sat (fun op pos t => (t.park op pos).Inv) State.Inv op := by
  cases ht with
  | channelBusy => exact h.park hs hchannel
  | noAnswer => exact h.park hs hchannel
  | handlerAwaited => exact h.park hs hchannel
  | noPort => trivial
  | frameSent hfree =>
    exact h.go hs (.same h rfl rfl rfl rfl rfl) ⟨rfl, fun _ => id, id, nofun, rfl, rfl⟩ (.inr hfree)
  | answerTaken hnext =>
    exact h.go hs (.same h rfl rfl rfl rfl rfl) ⟨rfl, fun _ => id, id, nofun, rfl, replyFits_reply _ _ _⟩ (.inl rfl)
  | rateSent | formatSent | linesPushed | breakWritten =>
    exact h.go hs (.same h rfl rfl rfl rfl rfl) ⟨rfl, fun _ => id, id, nofun, rfl, rfl⟩ (.inl rfl)
  | rateRejected =>
    exact h.go hs (.same h rfl rfl rfl rfl rfl) ⟨rfl, fun _ => endsIn_of_initialized (.inr rfl), id, nofun, rfl, rfl⟩
      (.inl rfl)
  | probed =>
    exact h.go hs (.setPhase h hs.kind (hs.fits rfl).2 nofun) ⟨rfl, fun _ _ => rfl, id, nofun, rfl, rfl⟩ (.inl rfl)
  | reconfigureEntered =>
    exact h.go hs (.setPhase h hs.kind (hs.fits rfl).2 nofun)
      ⟨rfl, fun _ _ => rfl, fun _ => bothEnabled_enabledFormat _ _, nofun, rfl, rfl⟩ (.inl rfl)
  | rateSwapped hp =>
    exact h.go hs (.writePort h hp rfl rfl rfl rfl rfl id) ⟨rfl, fun _ => id, id, nofun, rfl, rfl⟩ (.inl rfl)
  | swapRejected hp =>
    exact h.go hs (.writePort h hp rfl rfl rfl rfl rfl id) ⟨rfl, fun _ => id, fun _ => rfl, nofun, rfl, rfl⟩ (.inl rfl)
  | firstWriteUndone hp | secondWriteUndone hp | rateRestored hp =>
    exact h.go hs (.writePort h hp rfl rfl rfl rfl rfl id)
      ⟨rfl, fun _ => endsIn_of_reconfiguring, fun _ => rfl, nofun, rfl, rfl⟩ (.inl rfl)
  | formatStored hp =>
    exact h.go hs (.writePort h hp rfl rfl rfl rfl rfl fun hl => hl.setFormat hs.enabled)
      ⟨rfl, fun _ => endsIn_of_reconfiguring, fun _ => rfl, nofun, rfl, rfl⟩ (.inl rfl)
  | lossReported hp =>
    exact h.go hs (.writePort h hp rfl rfl rfl rfl rfl id) ⟨rfl, fun _ => id, id, nofun, rfl, rfl⟩ (.inl rfl)
  | seedAsked hk hp hls =>
    exact h.go hs (.writePort h hp rfl rfl rfl rfl rfl (hls ▸ id))
      ⟨hk, fun _ hf => (fits_query hk _).trans hf, id, nofun, storesStatus_query hk, rfl⟩ (.inl rfl)
  | openRefused hp hls =>
    exact h.go hs (.writePort h hp rfl rfl rfl rfl rfl (hls ▸ id))
      ⟨rfl, fun _ => endsIn_of_initialized (.inr rfl), id, nofun, rfl, rfl⟩ (.inl rfl)
  | resumeRefused hp hls =>
    exact h.go hs (.writePort h hp rfl rfl rfl rfl rfl (hls ▸ id)) ⟨rfl, fun _ => id, id, nofun, rfl, rfl⟩
      (.inl rfl)
  | seedWithdrawn hk hp =>
    exact h.go hs (.writePort h hp rfl rfl rfl rfl rfl id)
      ⟨hk.symm, fun _ hf => endsIn_of_initialized (.inr rfl) ((fits_query hk _).symm.trans hf), id, nofun,
        (storesStatus_query hk).symm, rfl⟩ (.inl rfl)
  | seedStored hk hp =>
    exact h.go hs (.writePort h hp rfl rfl rfl rfl rfl fun hl => hl.setStatus _)
      ⟨hk.symm, fun _ hf => endsIn_of_initialized (.inl rfl) ((fits_query hk _).symm.trans hf), id, nofun,
        (storesStatus_query hk).symm, rfl⟩ (.inl rfl)
  | returned hk =>
    exact h.ret (.same h rfl rfl rfl rfl rfl) (fun hop => absurd (hs.kind.symm.trans hop) (by simp [Pos.isLife, hk]))
  | statusStored hp =>
    refine h.ret ?_ fun hop => absurd (hs.kind.symm.trans hop) nofun
    exact .writePort h hp rfl rfl rfl rfl rfl fun hl => hl.setStatus _
  | bringUpAborted hk =>
    refine h.ret ?_ fun _ => rfl
    exact .setPhase h (hs.kind.trans hk) (hs.fits hk).2 nofun
  | resumeKept =>
    refine h.ret ?_ fun _ => rfl
    exact .setPhase h hs.kind (hs.fits rfl).2 nofun
  | reconfigureRefused hphase => exact absurd (hs.fits rfl).1 (by simpa [Pos.fits] using hphase)
  | finished =>
    obtain ⟨hsettled, hq⟩ := Phase.endsIn_settled (hs.fits rfl).1
    exact h.ret (.setPhase h hs.kind (hs.fits rfl).2 hq) (fun _ => hsettled)
  | released hm => exact h.release (hs.releasing rfl) hm

/-! ## Every first segment keeps the invariant -/

/-- An operation that starts with a segment that goes on. -/
theorem Surroundings.begin {op : Instr} {pos : Pos} {s t : State} (h : Surroundings op s) (hk : Kept op s t)
    (hs : Standing op pos t) (hchannel : pos.onChannel = false) : (t.park op pos).Inv :=
  (h.keep hk).park hs (by simp [hchannel])

theorem enabled_of_not_isLife {k : After} (h : k.isLife = false) (c : Config.Params) : k.enabled c = true := by
  cases k with
  | firstWrite g k => cases k <;> first | rfl | cases h
  | secondWrite k => cases k <;> first | rfl | cases h
  | _ => rfl

/-- CLAIM creates the port while no lifecycle operation is in progress (R202). -/
theorem Surroundings.claim {s : State} (h : Surroundings .claim s) :
    (((s.setPort (Port.atClaim s.cfg)).setPhase .unconfigured).respond (some .claim) (.ok .unit)).Inv := by
  have hsur : Surroundings .claim ((s.setPort (Port.atClaim s.cfg)).setPhase .unconfigured) := {
    params := h.params
    exists_iff := by simp
    legal := fun p hp => Option.some.inj hp ▸ atClaim_legal h.params
    handled := fun _ => nofun
    others := fun t ht => by
      obtain ⟨hkind, -, henabled, hreleasing, -, hreply⟩ := h.others t ht
      have hlife : t.pos.isLife = false := hkind.symm.trans (h.noOtherLifecycle rfl t ht)
      exact ⟨hkind, by simp [hlife], henabled, hreleasing, nofun, hreply⟩
    oneTransfer := h.oneTransfer
    oneLifecycle := h.oneLifecycle
    noOtherLifecycle := h.noOtherLifecycle
    quiet := h.quiet
    noQuiet := h.noQuiet
    passing := nofun }
  exact (hsur.inv nofun).congr rfl rfl rfl rfl rfl

/-- The first segment of an operation that the host starts within its duty keeps the invariant. -/
theorem Begins.keeps_inv {op : Instr} {s : State} {seg : Seg} (hb : Begins s op seg) (h : Surroundings op s) :
    seg.Sat (fun op pos t => (t.park op pos).Inv) State.Inv op := by
  have hport {q : Phase} (hphase : s.phase = q) (hq : q ≠ .released) : s.port ≠ none := fun hp =>
    hq (hphase.symm.trans (h.exists_iff.1 hp))
  have hopen (hphase : s.phase = .unconfigured ∨ s.phase = .active) : s.phase ≠ .released := by
    rcases hphase with hp | hp <;> simp [hp]
  cases hb with
  | noPort => trivial
  | transfer hi hk hquery =>
    refine h.begin (.same h rfl rfl rfl rfl rfl) ⟨hi.trans hk.symm, ?_, enabled_of_not_isLife hk _, nofun, ?_, rfl⟩ rfl
    · exact fun hl => absurd (hk.symm.trans hl) nofun
    · exact fun hp => eq_false_of_ne_true fun hst => (hquery hst).2 hp
  | linesSet hp =>
    exact h.begin (.writePort h hp rfl rfl rfl rfl rfl fun hl => hl.setControl (combineLines_legal hl.2.2.1 _ _))
      ⟨rfl, nofun, rfl, nofun, fun _ => rfl, rfl⟩ rfl
  | linesRaised hp =>
    exact h.begin (.writePort h hp rfl rfl rfl rfl rfl fun hl => hl.setControl (raisedLines_legal hl.2.2.1 _))
      ⟨rfl, nofun, rfl, nofun, fun _ => rfl, rfl⟩ rfl
  | answered hi =>
    refine h.ret ?_ fun hop => absurd (hi.symm.trans hop) nofun
    exact .same h rfl rfl rfl rfl rfl
  | subscribed hp hls =>
    refine h.ret ?_ nofun
    exact .writePort h hp rfl rfl rfl rfl rfl (hls ▸ id)
  | unsubscribed hp =>
    refine h.ret ?_ nofun
    exact .writePort h hp rfl rfl rfl rfl rfl id
  | claimed => exact h.claim
  | opened hphase =>
    exact h.begin (.setPhase h rfl (hport hphase nofun) nofun)
      ⟨rfl, fun _ => ⟨rfl, hport hphase nofun⟩, rfl, nofun, fun _ => rfl, rfl⟩ rfl
  | reconfigured hphase =>
    exact h.begin (.setPhase h rfl (hport hphase nofun) nofun)
      ⟨rfl, fun _ => ⟨rfl, hport hphase nofun⟩, bothEnabled_enabledFormat _ _, nofun, fun _ => rfl, rfl⟩ rfl
  | halfRead hi hphase =>
    have hlife : isLifecycle op = true := by rcases hi with ⟨_, rfl⟩ | ⟨_, rfl⟩ <;> rfl
    exact h.begin (.same h rfl rfl rfl rfl rfl)
      ⟨hlife, fun _ => ⟨by simp [Pos.fits, hphase], hport hphase nofun⟩, rfl, nofun, fun _ => rfl, rfl⟩ rfl
  | resumed hp hphase =>
    have hlegal := h.legal _ hp
    exact h.begin
      ⟨rfl, rfl, rfl, by simp [hp], fun q hq => Option.some.inj hq ▸ hlegal, .inr ⟨rfl, hopen hphase, nofun⟩⟩
      ⟨rfl, fun _ => ⟨rfl, nofun⟩, rfl, nofun, nofun, rfl⟩ rfl
  | released hp hphase =>
    have hfits : Pos.fits s.phase .releaseWait = true := by
      rcases hphase with hp | hp <;> simp [Pos.fits, hp]
    exact h.begin (.writePort h hp rfl rfl rfl rfl rfl id)
      ⟨rfl, fun _ => ⟨hfits, nofun⟩, rfl, fun _ => rfl, nofun, rfl⟩ rfl

end Sys2Proof.Machine
end

section
/-!
Steps: what a step can be, said once, and the statements about every step that rest on the invariant.
-/

namespace Sys2Proof.Machine

/-! ## The handler -/

theorem monitorOnPort_none {s : State} (h : s.port = none) (f : Port → State) :
    monitorOnPort s f = .fault .noLineState := by
  simp [monitorOnPort, h]

/-- The re-arm writes the subscription flags, the record of answers, the SUB port and, where it fails, the EVT port. -/
theorem rearm_frame {s : State} {p : Port} (hp : s.port = some p) :
    ∃ q gs n es, q.ls = p.ls ∧ q.cnt = p.cnt ∧ q.stopRearm = p.stopRearm ∧ (∀ f, .sent f ∉ es) ∧
      s.rearm p = { s with monitor := none, port := some q, grants := gs, asked := n, out := s.out ++ es } ∧
      (p.stopRearm = true → q = p ∧ gs = s.grants ∧ n = s.asked ∧ es = []) := by
  obtain ⟨-, heq⟩ | ⟨hstop, -, gs, n, heq | heq⟩ := rearm_spec s p
  · exact ⟨p, s.grants, s.asked, [], rfl, rfl, rfl, by simp, by simp [heq, ← hp], fun _ => ⟨rfl, rfl, rfl, rfl⟩⟩
  · exact ⟨{ p with subArmed := true }, gs, n, [.submit], rfl, rfl, rfl, by simp, heq, by simp [hstop]⟩
  · exact ⟨{ p with monitorLost := true }, gs, n, [.submit, .monitorLost], rfl, rfl, rfl, by simp, by simp [heq],
      by simp [hstop]⟩

/-- What a segment of the handler can do. -/
inductive Handles (s : State) : MonPos → State → Prop
  | discarded {d} (hd : deliveredStatus d = none) : Handles s (.decode d) { s with monitor := some .rearm }
  | stored {d st p} (hd : deliveredStatus d = some st) (hp : s.port = some p) :
    Handles s (.decode d) { s.setPort (p.setStatus st) with
      monitor := some (.count (statusDelta st p.ls.modemStatus) st) }
  | counted {delta st p} (hp : s.port = some p) :
    Handles s (.count delta st) { s with
      port := some { p with cnt := p.cnt.after delta }
      out := s.out ++ carrierEvents delta st
      monitor := some .rearm }
  | rearmed {p} (hp : s.port = some p) : Handles s .rearm (s.rearm p)

/-- A segment of the handler does one of these, or faults where there is no port. -/
theorem monitorSegment_handles (m : MonPos) (s : State) :
    (∃ t, monitorSegment m s = .next t ∧ Handles s m t) ∨
      (s.port = none ∧ monitorSegment m s = .fault .noLineState) := by
  cases m with
  | decode d =>
    cases hd : deliveredStatus d with
    | none => exact .inl ⟨_, monitorSegment_decode_discarded hd s, .discarded hd⟩
    | some st =>
      cases hp : s.port with
      | some p => exact .inl ⟨_, monitorSegment_decode_status hd hp, .stored hd hp⟩
      | none =>
        revert hd
        fun_cases deliveredStatus d with
        | case1 => exact fun _ => .inr ⟨rfl, monitorOnPort_none hp _⟩
        | case2 => exact nofun
        | case3 => exact nofun
  | count delta st =>
    cases hp : s.port with
    | some p => exact .inl ⟨_, monitorSegment_count hp delta st, .counted hp⟩
    | none => exact .inr ⟨rfl, monitorOnPort_none hp _⟩
  | rearm =>
    cases hp : s.port with
    | some p => exact .inl ⟨_, monitorSegment_rearm hp, .rearmed hp⟩
    | none => exact .inr ⟨rfl, monitorOnPort_none hp _⟩

theorem handles_of_next {m : MonPos} {s t : State} (h : monitorSegment m s = .next t) : Handles s m t := by
  obtain ⟨t', ht, hh⟩ | ⟨-, hf⟩ := monitorSegment_handles m s
  · cases ht.symm.trans h
    exact hh
  · cases hf.symm.trans h

/-- The handler and its delivery write the status, the counters and the subscription flags: the invariant's other parts
stay as they are. -/
theorem State.Inv.monitor {s t : State} {p q : Port} (h : s.Inv) (hcfg : t.cfg = s.cfg) (hphase : t.phase = s.phase)
    (hpool : t.pool = s.pool) (hp : s.port = some p) (hq : t.port = some q)
    (hlegal : p.ls.Legal s.cfg → q.ls.Legal s.cfg) : t.Inv := by
  have hport : t.port = none ↔ s.port = none := by simp [hp, hq]
  have hstanding (x : Task) (hx : x ∈ t.pool) : Standing x.op x.pos t :=
    (h.standing (hpool ▸ hx)).mono hcfg hport fun _ => hphase
  exact {
    params := hcfg ▸ h.params
    exists_iff := by rw [hport, hphase, h.exists_iff]
    legal := fun q' hq' => by
      cases hq.symm.trans hq'
      exact hcfg ▸ hlegal (h.legal p hp)
    handled := fun _ => by simp [hq]
    kinds := fun x hx => (hstanding x hx).kind
    oneLifecycle := hpool ▸ h.oneLifecycle
    fits := fun x hx => (hstanding x hx).fits
    passing := by rw [hphase, hpool]; exact h.passing
    oneTransfer := hpool ▸ h.oneTransfer
    enabled := fun x hx => (hstanding x hx).enabled
    alone := by rw [hpool]; exact h.alone
    releasing := fun x hx => (hstanding x hx).releasing
    noLateQuery := fun hn => by simp [hq] at hn
    replies := fun x hx => (hstanding x hx).reply }

theorem deliveredStatus_legal {d : Delivery} {st : Byte} (h : deliveredStatus d = some st) :
    st &&& not8 Config.statusMask = 0 := by
  revert h
  fun_cases deliveredStatus d with
  | case1 _ _ inv => rintro ⟨⟩; exact and_not8_of_and _ _
  | case2 => exact nofun
  | case3 => exact nofun

theorem Handles.keeps_inv {m : MonPos} {s t : State} (hh : Handles s m t) (h : s.Inv) (hm : s.monitor = some m) :
    t.Inv := by
  cases hh with
  | discarded =>
    obtain ⟨p, hp⟩ := Option.ne_none_iff_exists'.1 (h.handled (by simp [hm]))
    exact h.monitor rfl rfl rfl hp hp id
  | stored hd hp => exact h.monitor rfl rfl rfl hp rfl fun hl => ⟨hl.1, hl.2.1, hl.2.2.1, deliveredStatus_legal hd⟩
  | counted hp => exact h.monitor rfl rfl rfl hp rfl id
  | rearmed hp =>
    obtain ⟨q, gs, n, es, hls, -, -, -, heq, -⟩ := rearm_frame hp
    rw [heq]
    exact h.monitor rfl rfl rfl hp rfl (hls ▸ id)

theorem runMonitor_keeps_inv {n : Nat} {s t : State} (h : s.Inv) (ht : runMonitor n s = .next t) : t.Inv :=
  runMonitor_next (fun _ _ _ hi hm hg => (handles_of_next hg).keeps_inv hi hm) n s t h ht

theorem State.Inv.takeSlice {s : State} (h : s.Inv) : s.takeSlice.Inv := h.congr rfl rfl rfl rfl rfl

theorem proceedMonitor_keeps_inv {s t : State} (h : s.Inv) (ht : proceedMonitor s = .next t) : t.Inv := by
  unfold proceedMonitor at ht
  split at ht
  · cases ht; exact h
  · exact runMonitor_keeps_inv h.takeSlice ht

/-- A delivery starts the handler where one is due, and is not seen otherwise (R65, R180). -/
theorem exec_notify_cases (d : Delivery) (s : State) :
    (s.deliverable = false ∧ exec (.notify d) s = .next s) ∨
    ∃ p, s.monitor = none ∧ s.port = some p ∧ p.subArmed = true ∧
      exec (.notify d) s = runMonitor s.slice (s.takeSlice.deliver p d) := by
  cases hdue : s.deliverable with
  | false => exact .inl ⟨rfl, by simp [exec_notify, execNotify, hdue]⟩
  | true =>
    obtain ⟨hm, p, hp, ha⟩ := (deliverable_iff s).1 hdue
    exact .inr ⟨p, hm, hp, ha, by simp [exec_notify, execNotify, hdue, hp]⟩

theorem State.Inv.deliver {s : State} {p : Port} (h : s.Inv) (hp : s.port = some p) (d : Delivery) :
    (s.takeSlice.deliver p d).Inv :=
  h.monitor rfl rfl rfl hp rfl id

/-! ## The command agent -/

theorem advance_keeps_inv {op : Instr} {pos : Pos} {s : State} (h : (s.park op pos).Inv) :
    (advance pos s).Sat (fun op pos t => (t.park op pos).Inv) State.Inv op := by
  refine (advance_takes pos s).keeps_inv h.surroundings_park h.standing_park fun hc => ?_
  have hone := h.oneTransfer
  rw [State.park_pool, List.countP_append, List.countP_singleton, if_pos hc] at hone
  exact (channelBusy_eq_false_iff s).2 (by omega)

theorem drive_keeps_inv {n : Nat} {op : Instr} {seg : Seg} {t : State}
    (hseg : seg.Sat (fun op pos t => (t.park op pos).Inv) State.Inv op) (h : drive n op seg = .next t) : t.Inv :=
  drive_next (fun _ _ _ => advance_keeps_inv) (fun _ _ _ => id) n op seg t hseg h

/-- The invocation at a place of the list, taken out and put back last. -/
theorem State.Inv.taken {s : State} (h : s.Inv) {k : Nat} {t : Task} (hk : s.pool[k]? = some t) :
    (State.park { s.takeSlice with pool := s.pool.eraseIdx k } t.op t.pos).Inv := by
  obtain ⟨hlt, ht⟩ := List.getElem?_eq_some_iff.1 hk
  have hperm : (s.pool.eraseIdx k ++ [t]).Perm s.pool :=
    (List.perm_append_singleton t _).trans (ht ▸ List.getElem_cons_eraseIdx_perm hlt)
  exact (h.takeSlice.perm hperm).congr rfl rfl rfl rfl rfl

theorem proceedTask_keeps_inv {k : Nat} {s t : State} (h : s.Inv) (ht : proceedTask k s = .next t) : t.Inv := by
  unfold proceedTask at ht
  split at ht
  · cases ht; exact h
  · exact drive_keeps_inv (advance_keeps_inv (h.taken ‹_›)) ht

theorem exec_keeps_inv {i : Instr} {s t : State} (h : s.Inv) (ht : exec i s = .next t) : t.Inv := by
  cases hn : isNotification i with
  | true =>
    cases i with
    | notify d =>
      obtain ⟨-, heq⟩ | ⟨p, -, hp, -, heq⟩ := exec_notify_cases d s
      · cases heq.symm.trans ht
        exact h
      · exact runMonitor_keeps_inv (h.deliver hp d) (heq.symm.trans ht)
    | _ => cases hn
  | false =>
    obtain heq | ⟨-, heq⟩ | ⟨seg, -, hd, heq, hb⟩ := exec_cases hn s
    · cases heq.symm.trans ht
      exact h.congr rfl rfl rfl rfl rfl
    · cases heq.symm.trans ht
    · exact drive_keeps_inv (hb.keeps_inv (h.takeSlice.surroundings_start hn hd)) (heq.symm.trans ht)

/-! ## The step -/

/-- What a step can be: an operation, an object that names none, an invocation or the handler that goes on, or nothing.
`rest` is what is left at the input ports. -/
inductive Steps (s : State) (rest : List Input) : Out → Prop
  | operation {e i} (hin : s.inbox = .call e :: rest) (hd : decode e = .ok i) :
    Steps s rest (exec i { s with inbox := rest })
  | unknownCommand : Steps s rest (.next ({ s with inbox := rest }.respond none .refused))
  | unknownFrame : Steps s rest (.refused .unknownFrame)
  | invocation (k : Nat) : Steps s rest (proceedTask k { s with inbox := rest })
  | handler : Steps s rest (proceedMonitor { s with inbox := rest })
  | idle : Steps s rest (.next { s with inbox := rest })

theorem step_steps (s : State) : ∃ rest, Steps s rest (step s) := by
  cases hin : s.inbox with
  | nil =>
    have heq : step s = goOn s := by simp only [step, State.fetch, hin]
    refine ⟨s.inbox, heq ▸ ?_⟩
    unfold goOn
    split
    · exact .handler
    · split
      · exact .idle
      · exact .invocation 0
  | cons i rest =>
    refine ⟨rest, ?_⟩
    cases i with
    | call e =>
      cases hd : decode e with
      | ok i => exact step_call_ok hin hd ▸ .operation hin hd
      | error r =>
        rw [step_call_error hin hd]
        cases r with
        | unknownOp => exact .unknownCommand
        | unknownFrame => exact .unknownFrame
    | proceed k =>
      have heq : step s = proceedTask k { s with inbox := rest } := by simp only [step, State.fetch, hin]
      exact heq ▸ .invocation k
    | proceedMonitor =>
      have heq : step s = proceedMonitor { s with inbox := rest } := by simp only [step, State.fetch, hin]
      exact heq ▸ .handler

theorem State.Inv.inbox {s : State} (h : s.Inv) (rest : List Input) : { s with inbox := rest }.Inv :=
  h.congr rfl rfl rfl rfl rfl

/-- Settles O50: each kind of step keeps the invariant. -/
theorem stepKeepsInvariant : Obligations.StepKeepsInvariant := by
  intro s t h ht
  obtain ⟨rest, hs⟩ := step_steps s
  rw [ht] at hs
  generalize hout : Host.Outcome.next t = out at hs
  cases hs with
  | operation => exact exec_keeps_inv (h.inbox rest) hout.symm
  | unknownCommand => cases hout; exact (h.inbox rest).congr rfl rfl rfl rfl rfl
  | unknownFrame => cases hout
  | invocation k => exact proceedTask_keeps_inv (h.inbox rest) hout.symm
  | handler => exact proceedMonitor_keeps_inv (h.inbox rest) hout.symm
  | idle => cases hout; exact h.inbox rest

/-- Settles O51: the values after CLAIM and before the first one, with nothing in progress. -/
theorem invariantAtStart : Obligations.InvariantAtStart :=
  ⟨inv_of_pool_nil rfl Config.implementation_ok ⟨nofun, nofun⟩
      (fun _ hp => Option.some.inj hp ▸ atClaim_legal Config.implementation_ok) (fun hm => absurd rfl hm) rfl,
    inv_of_pool_nil rfl Config.implementation_ok ⟨fun _ => rfl, fun _ => rfl⟩ nofun (fun hm => absurd rfl hm) rfl⟩

/-! ## Faults (R36, log entry 12) -/

/-- An invocation that stands as the invariant asks does not use the port's state where there is none. -/
theorem advance_not_fault {op : Instr} {pos : Pos} {s : State} (h : Standing op pos s) (f : Fault) :
    advance pos s ≠ .fault f := by
  intro hf
  have ht := advance_takes pos s
  rw [hf] at ht
  cases ht with
  | noPort hp huses =>
    rcases huses with hlife | hstores
    · exact (h.fits hlife).2 hp
    · simp [h.noLateQuery hp] at hstores

/-- An operation in a phase in which it is legal does not use the port's state where there is none. -/
theorem Begins.not_fault {op : Instr} {s : State} {seg : Seg} (hb : Begins s op seg) (h : s.Inv)
    (hl : legal op s.phase = true) (f : Fault) : seg ≠ .fault f := by
  rintro rfl
  cases hb with
  | noPort hp huses => simp [h.exists_iff.1 hp, huses] at hl

theorem drive_not_fault {n : Nat} {op : Instr} {seg : Seg} {f : Fault}
    (hseg : seg.Sat (fun op pos t => (t.park op pos).Inv) State.Inv op) (hf : seg ≠ .fault f) :
    drive n op seg ≠ .fault f := by
  induction n generalizing seg with
  | zero =>
    cases seg with
    | fault g => simp at hf
    | _ => simp
  | succ n ih =>
    cases seg with
    | go pos s => exact ih (advance_keeps_inv hseg) (advance_not_fault hseg.standing_park f)
    | fault g => simp at hf
    | _ => simp

theorem runMonitor_not_fault {n : Nat} {s : State} {f : Fault} (h : s.Inv) : runMonitor n s ≠ .fault f := by
  induction n generalizing s with
  | zero => simp [runMonitor]
  | succ n ih =>
    cases hm : s.monitor with
    | none => simp [runMonitor_none hm]
    | some m =>
      obtain ⟨t, ht, hh⟩ | ⟨hp, -⟩ := monitorSegment_handles m s
      · rw [runMonitor_segment hm ht]
        exact ih (hh.keeps_inv h hm)
      · exact absurd hp (h.handled (by simp [hm]))

theorem proceedTask_not_fault {k : Nat} {s : State} {f : Fault} (h : s.Inv) : proceedTask k s ≠ .fault f := by
  unfold proceedTask
  split
  · simp
  · have hpark := h.taken ‹_›
    exact drive_not_fault (advance_keeps_inv hpark) (advance_not_fault hpark.standing_park f)

theorem proceedMonitor_not_fault {s : State} {f : Fault} (h : s.Inv) : proceedMonitor s ≠ .fault f := by
  unfold proceedMonitor
  split
  · simp
  · exact runMonitor_not_fault h.takeSlice

theorem exec_not_fault {i : Instr} {s : State} {f : Fault} (h : s.Inv) : exec i s ≠ .fault f := by
  cases hn : isNotification i with
  | true =>
    cases i with
    | notify d =>
      obtain ⟨-, heq⟩ | ⟨p, -, hp, -, heq⟩ := exec_notify_cases d s
      · simp [heq]
      · exact heq ▸ runMonitor_not_fault (h.deliver hp d)
    | _ => cases hn
  | false =>
    obtain heq | ⟨-, heq⟩ | ⟨seg, hl, hd, heq, hb⟩ := exec_cases hn s
    · simp [heq]
    · simp [heq]
    · rw [heq]
      exact drive_not_fault (hb.keeps_inv (h.takeSlice.surroundings_start hn hd)) (hb.not_fault h.takeSlice hl f)

theorem step_not_fault {s : State} (h : s.Inv) (f : Fault) : step s ≠ .fault f := by
  intro hf
  obtain ⟨rest, hs⟩ := step_steps s
  rw [hf] at hs
  generalize hout : Host.Outcome.fault f = out at hs
  cases hs with
  | operation => exact exec_not_fault (h.inbox rest) hout.symm
  | unknownCommand => cases hout
  | unknownFrame => cases hout
  | invocation k => exact proceedTask_not_fault (h.inbox rest) hout.symm
  | handler => exact proceedMonitor_not_fault (h.inbox rest) hout.symm
  | idle => cases hout

/-- Settles O57: no kind of step faults under the invariant; a query that has outlived the port has no state to write. -/
theorem faultOnlyAfterDiscard : Obligations.FaultOnlyAfterDiscard := by
  refine ⟨fun s f h => step_not_fault h f, fun s j more op f bytes b hp hin hj hdir hlen hb => ?_⟩
  have hstep : step s = proceedTask j { s with inbox := more } := by simp only [step, State.fetch, hin]
  simp [hstep, proceedTask, hj, advance, completion_toHost hdir, hlen, afterTransfer, afterSuccess, queryDone, hb,
    withPort, hp]

end Sys2Proof.Machine
end

section
/-!
What segments and steps leave unchanged: which segment writes which field (10_state.md R21 to R26), the phase machine
(45_orchestrator.md R200), the operations that write no state, and what no step changes.
-/

namespace Sys2Proof.Machine

/-! ## Which segment writes which field -/

/-- What a segment at this position may have written of the port's record, from `p` to `q`. -/
structure Writes (pos : Pos) (p q : Port) : Prop where
  control : q.ls.modemControl = p.ls.modemControl
  counters : q.cnt = p.cnt
  status : q.ls.modemStatus ≠ p.ls.modemStatus → ∃ f a k, pos = .answered f a (.query k)
  format : q.ls.frameFormat ≠ p.ls.frameFormat → ∃ f a old g, pos = .answered f a (.secondWrite (.reconfigure old g))
  rate : q.ls.baudRate ≠ p.ls.baudRate →
    (∃ b f, pos = .swapBaud b f) ∨ (∃ old k, pos = .rollback old k) ∨
    (∃ f a old g, pos = .answered f a (.secondWrite (.reconfigure old g))) ∨
    ∃ f a g old h, pos = .answered f a (.firstWrite g (.reconfigure old h))

theorem Writes.nothing {pos : Pos} {p q : Port} (hls : q.ls = p.ls) (hcnt : q.cnt = p.cnt) : Writes pos p q :=
  ⟨by rw [hls], hcnt, fun h => absurd (by rw [hls]) h, fun h => absurd (by rw [hls]) h,
    fun h => absurd (by rw [hls]) h⟩

/-- What a segment may do to the parameters and to the port. -/
structure Touches (pos : Pos) (s t : State) : Prop where
  cfg : t.cfg = s.cfg
  port_none : s.port = none → t.port = none
  writes : ∀ p q, s.port = some p → t.port = some q → Writes pos p q

theorem Touches.nothing {pos : Pos} {s t : State} (hcfg : t.cfg = s.cfg) (hport : t.port = s.port) :
    Touches pos s t :=
  ⟨hcfg, fun h => hport.trans h, fun p q hp hq => by
    cases hp.symm.trans (hport.symm.trans hq)
    exact .nothing rfl rfl⟩

theorem Touches.port {pos : Pos} {s t : State} {p q : Port} (hcfg : t.cfg = s.cfg) (hp : s.port = some p)
    (hq : t.port = some q) (hw : Writes pos p q) : Touches pos s t :=
  ⟨hcfg, fun h => by simp [hp] at h, fun p' q' hp' hq' => by
    cases hp.symm.trans hp'
    cases hq.symm.trans hq'
    exact hw⟩

theorem Takes.touches {pos : Pos} {s t : State} {seg : Seg} (ht : Takes s pos seg) (hst : seg.state = some t) :
    Touches pos s t := by
  cases ht with
  | noPort => cases hst
  | released =>
    cases hst
    exact ⟨rfl, fun _ => rfl, nofun⟩
  | channelBusy | frameSent | noAnswer | answerTaken | returned | bringUpAborted | probed | rateSent | rateRejected
  | formatSent | linesPushed | resumeKept | breakWritten | reconfigureEntered | reconfigureRefused | finished
  | handlerAwaited =>
    cases hst
    exact .nothing rfl rfl
  | seedAsked _ hp hls hcnt | openRefused hp hls hcnt | resumeRefused hp hls hcnt =>
    cases hst
    exact .port rfl hp rfl (.nothing hls hcnt)
  | seedWithdrawn _ hp | lossReported hp =>
    cases hst
    exact .port rfl hp rfl (.nothing rfl rfl)
  | statusStored hp | seedStored _ hp =>
    cases hst
    exact .port rfl hp rfl ⟨rfl, rfl, fun _ => ⟨_, _, _, rfl⟩, fun h => absurd rfl h, fun h => absurd rfl h⟩
  | formatStored hp =>
    cases hst
    exact .port rfl hp rfl ⟨rfl, rfl, fun h => absurd rfl h, fun _ => ⟨_, _, _, _, rfl⟩, fun h => absurd rfl h⟩
  | firstWriteUndone hp =>
    cases hst
    exact .port rfl hp rfl ⟨rfl, rfl, fun h => absurd rfl h, fun h => absurd rfl h,
      fun _ => .inr (.inr (.inr ⟨_, _, _, _, _, rfl⟩))⟩
  | secondWriteUndone hp =>
    cases hst
    exact .port rfl hp rfl ⟨rfl, rfl, fun h => absurd rfl h, fun h => absurd rfl h,
      fun _ => .inr (.inr (.inl ⟨_, _, _, _, rfl⟩))⟩
  | rateSwapped hp | swapRejected hp =>
    cases hst
    exact .port rfl hp rfl ⟨rfl, rfl, fun h => absurd rfl h, fun h => absurd rfl h, fun _ => .inl ⟨_, _, rfl⟩⟩
  | rateRestored hp =>
    cases hst
    exact .port rfl hp rfl ⟨rfl, rfl, fun h => absurd rfl h, fun h => absurd rfl h, fun _ => .inr (.inl ⟨_, _, rfl⟩)⟩

/-- Settles O55: `Touches`, for the segment that is taken. -/
theorem segmentsWriteOnlyTheirField : Obligations.SegmentsWriteOnlyTheirField := by
  intro pos s t p q hst hp hq
  obtain ⟨hcontrol, hcounters, hstatus, hformat, hrate⟩ := ((advance_takes pos s).touches hst).writes p q hp hq
  exact ⟨hcontrol, hcounters, hstatus, hformat, hrate⟩

/-! ## The phase machine (R200) -/

theorem phaseEdge_of_endsIn {p q : Phase} (h : p.endsIn q = true) : phaseEdge p q = true := by
  cases p <;> cases q <;> first | rfl | cases h

theorem Takes.phase {pos : Pos} {s t : State} {seg : Seg} (ht : Takes s pos seg)
    (hfits : pos.isLife = true → pos.fits s.phase = true) (hst : seg.state = some t) :
    t.phase = s.phase ∨ (pos.isLife = true ∧ phaseEdge s.phase t.phase = true) := by
  cases ht with
  | noPort => cases hst
  | bringUpAborted hk hphase =>
    cases hst
    refine .inr ⟨hk, ?_⟩
    rcases hphase s.phase (hfits hk) with hp | hp <;> simp [hp, phaseEdge]
  | probed =>
    cases hst
    have hp : s.phase = .probing := by simpa [Pos.fits, After.fits] using hfits rfl
    exact .inr ⟨rfl, by simp [hp, phaseEdge]⟩
  | resumeKept =>
    cases hst
    have hp : s.phase = .initialized := by simpa [Pos.fits, After.fits] using hfits rfl
    exact .inr ⟨rfl, by simp [hp, phaseEdge]⟩
  | reconfigureEntered hp =>
    cases hst
    exact .inr ⟨rfl, by simp [hp, phaseEdge]⟩
  | finished =>
    cases hst
    exact .inr ⟨rfl, phaseEdge_of_endsIn (hfits rfl)⟩
  | released =>
    cases hst
    have hp : s.phase = .active ∨ s.phase = .unconfigured := by simpa [Pos.fits] using hfits rfl
    refine .inr ⟨rfl, ?_⟩
    rcases hp with hp | hp <;> simp [hp, phaseEdge]
  | _ =>
    cases hst
    exact .inl rfl

theorem Begins.phase {op : Instr} {s t : State} {seg : Seg} (hb : Begins s op seg) (hst : seg.state = some t) :
    t.phase = s.phase ∨ (isLifecycle op = true ∧ phaseEdge s.phase t.phase = true) := by
  cases hb with
  | noPort => cases hst
  | claimed hp | opened hp | reconfigured hp =>
    cases hst
    exact .inr ⟨rfl, by simp [hp, phaseEdge]⟩
  | resumed _ hp =>
    cases hst
    refine .inr ⟨rfl, ?_⟩
    rcases hp with hp | hp <;> simp [hp, phaseEdge]
  | _ =>
    cases hst
    exact .inl rfl

/-- Where the turn is over after the first segment, the invocation stops in the state this segment leaves. -/
theorem drive_zero_state {op : Instr} {seg : Seg} {t : State} (h : drive 0 op seg = .next t) :
    ∃ u, seg.state = some u ∧ t.phase = u.phase := by
  cases seg with
  | fault f => cases h
  | _ => cases h; exact ⟨_, rfl, rfl⟩

/-- Settles O53: further segments by `Takes`, first segments by `Begins`. -/
theorem segmentsFollowPhaseMachine : Obligations.SegmentsFollowPhaseMachine := by
  refine ⟨fun pos s t => (advance_takes pos s).phase, fun i s t rest hslices h => ?_⟩
  have hslice : s.slice = 0 := by simp [State.slice, hslices]
  cases hn : isNotification i with
  | true =>
    cases i with
    | notify d =>
      obtain ⟨-, heq⟩ | ⟨p, -, -, -, heq⟩ := exec_notify_cases d s
      · cases heq.symm.trans h
        exact .inl rfl
      · rw [heq, hslice] at h
        cases h
        exact .inl rfl
    | _ => cases hn
  | false =>
    obtain heq | ⟨-, heq⟩ | ⟨seg, -, -, heq, hb⟩ := exec_cases hn s
    · cases heq.symm.trans h
      exact .inl rfl
    · cases heq.symm.trans h
    · rw [heq, hslice] at h
      obtain ⟨u, hu, hphase⟩ := drive_zero_state h
      exact hphase ▸ hb.phase hu

/-! ## Operations that write no state -/

/-- No segment changes who is in progress, what is placed at the input ports, or the schedule. -/
theorem Takes.schedule {pos : Pos} {s t : State} {seg : Seg} (ht : Takes s pos seg) (hst : seg.state = some t) :
    t.pool = s.pool ∧ t.inbox = s.inbox ∧ t.slices = s.slices := by
  cases ht with
  | noPort => cases hst
  | _ =>
    cases hst
    exact ⟨rfl, rfl, rfl⟩

/-- Nothing is written of the block's state, of the input ports, or of the subscription service's answers. -/
structure ReadsOnly (s t : State) : Prop where
  cfg : t.cfg = s.cfg
  phase : t.phase = s.phase
  port : t.port = s.port
  monitor : t.monitor = s.monitor
  inbox : t.inbox = s.inbox
  grants : t.grants = s.grants
  asked : t.asked = s.asked

theorem ReadsOnly.refl (s : State) : ReadsOnly s s := ⟨rfl, rfl, rfl, rfl, rfl, rfl, rfl⟩

theorem ReadsOnly.trans {s t u : State} (h : ReadsOnly s t) (h' : ReadsOnly t u) : ReadsOnly s u :=
  ⟨h'.cfg.trans h.cfg, h'.phase.trans h.phase, h'.port.trans h.port, h'.monitor.trans h.monitor,
    h'.inbox.trans h.inbox, h'.grants.trans h.grants, h'.asked.trans h.asked⟩

theorem ReadsOnly.respond {s t : State} (h : ReadsOnly s t) (op : Option Instr) (r : Result) :
    ReadsOnly s (t.respond op r) := h.trans ⟨rfl, rfl, rfl, rfl, rfl, rfl, rfl⟩

theorem ReadsOnly.park {s t : State} (h : ReadsOnly s t) (op : Instr) (pos : Pos) : ReadsOnly s (t.park op pos) :=
  h.trans ⟨rfl, rfl, rfl, rfl, rfl, rfl, rfl⟩

/-- A position of an operation that neither is a lifecycle operation nor stores a status. -/
def Pos.reads (pos : Pos) : Prop := pos.isLife = false ∧ pos.storesStatus = false

/-- What is to hold along an invocation that writes no state, from `s` on. -/
def Seg.ReadsFrom (s : State) (seg : Seg) : Prop :=
  ∀ op, seg.Sat (fun _ pos t => pos.reads ∧ ReadsOnly s t) (ReadsOnly s) op

theorem Seg.ReadsFrom.state {s t : State} {seg : Seg} (h : seg.ReadsFrom s)
    (hst : seg.state = some t) : ReadsOnly s t := by
  cases seg with
  | fault => cases hst
  | ret r u =>
    cases hst
    exact (h .readVersion).trans ⟨rfl, rfl, rfl, rfl, rfl, rfl, rfl⟩
  | _ =>
    cases hst
    exact (h .readVersion).2

/-- From such a position a segment leads to such a position, and writes no state. -/
theorem Takes.readsFrom {pos : Pos} {s₀ s : State} {seg : Seg} (ht : Takes s pos seg) (hpos : pos.reads)
    (h : ReadsOnly s₀ s) : seg.ReadsFrom s₀ := by
  intro op
  obtain ⟨hlife, hstores⟩ := hpos
  cases ht with
  | channelBusy | noAnswer => exact ⟨⟨hlife, hstores⟩, h⟩
  | frameSent | answerTaken | formatSent | breakWritten =>
    exact ⟨⟨hlife, hstores⟩, h.trans ⟨rfl, rfl, rfl, rfl, rfl, rfl, rfl⟩⟩
  | returned => exact h.respond _ _
  | noPort => trivial
  | seedWithdrawn hk | seedStored hk | bringUpAborted hk => exact absurd (hk.symm.trans hlife) nofun
  | statusStored => exact absurd hstores nofun
  | _ => exact absurd hlife nofun

theorem drive_readsOnly {n : Nat} {op : Instr} {seg : Seg} {s t : State} (hseg : seg.ReadsFrom s)
    (h : drive n op seg = .next t) : ReadsOnly s t :=
  drive_next (I := fun _ pos t => pos.reads ∧ ReadsOnly s t)
    (fun op pos u hu => (advance_takes pos u).readsFrom hu.1 hu.2 op) (fun op pos _ hu => hu.2.park op pos)
    n op seg t (hseg op) h

/-- The operations that write no state of the block. -/
def ReadsState (i : Instr) : Prop :=
  (∃ a b, i = .writeReg a b) ∨ (∃ a n, i = .readReg a n) ∨ i = .readVersion ∨ i = .serialInit ∨
    (∃ c, i = .modemCtrl c) ∨ (∃ on, i = .setBreak on) ∨ (∃ b, i = .synthesize b) ∨ (∃ b f, i = .programLine b f) ∨
    i = .getLines ∨ i = .carrierPresent

theorem Begins.readsFrom {op : Instr} {s : State} {seg : Seg} (hb : Begins s op seg) (hop : ReadsState op) :
    seg.ReadsFrom s := by
  intro op'
  cases hb with
  | transfer hi hk hquery =>
    refine ⟨⟨hk, eq_false_of_ne_true fun hst => ?_⟩, .refl s⟩
    have hop' := (hquery hst).1 ▸ hop
    simp [ReadsState] at hop'
  | answered => exact (ReadsOnly.refl s).respond _ _
  | noPort => trivial
  | halfRead hi =>
    rcases hi with ⟨_, rfl⟩ | ⟨_, rfl⟩ <;> simp [ReadsState] at hop
  | _ => simp [ReadsState] at hop

/-- Settles O13: first segments by `Begins`, further ones by `Takes`. -/
theorem readersTouchNoState : Obligations.ReadersTouchNoState := by
  refine ⟨fun i s t (hi : ReadsState i) h => ?_, fun pos s t hlife hstores hst => ?_⟩
  · have hn : isNotification i = false := by
      cases i with
      | notify d => simp [ReadsState] at hi
      | _ => rfl
    have hreads : ReadsOnly s t := by
      obtain heq | ⟨-, heq⟩ | ⟨seg, -, -, heq, hb⟩ := exec_cases hn s
      · cases heq.symm.trans h
        exact (ReadsOnly.refl s).respond _ _
      · cases heq.symm.trans h
      · have hrest := drive_readsOnly (hb.readsFrom hi) (heq.symm.trans h)
        exact (⟨rfl, rfl, rfl, rfl, rfl, rfl, rfl⟩ : ReadsOnly s s.takeSlice).trans hrest
    obtain ⟨hcfg, hphase, hport, hmonitor, hinbox, hgrants, hasked⟩ := hreads
    exact ⟨hcfg, hphase, hport, hmonitor, hinbox, hgrants, hasked⟩
  · obtain ⟨hpool, -, hslices⟩ := (advance_takes pos s).schedule hst
    obtain ⟨hcfg, hphase, hport, hmonitor, hinbox, hgrants, hasked⟩ :=
      ((advance_takes pos s).readsFrom ⟨hlife, hstores⟩ (.refl s)).state hst
    exact ⟨hcfg, hphase, hport, hpool, hmonitor, hinbox, hgrants, hasked, hslices⟩

/-! ## What no step changes -/

/-- Every counter of `c` is at most that of `d`. -/
def Counters.AtMost (c d : Counters) : Prop := c.cts ≤ d.cts ∧ c.dsr ≤ d.dsr ∧ c.ri ≤ d.ri ∧ c.dcd ≤ d.dcd

theorem Counters.AtMost.refl (c : Counters) : c.AtMost c := ⟨le_rfl, le_rfl, le_rfl, le_rfl⟩

theorem Counters.AtMost.trans {c d e : Counters} (h : c.AtMost d) (h' : d.AtMost e) : c.AtMost e :=
  ⟨h.1.trans h'.1, h.2.1.trans h'.2.1, h.2.2.1.trans h'.2.2.1, h.2.2.2.trans h'.2.2.2⟩

theorem Counters.atMost_after (c : Counters) (delta : Byte) : c.AtMost (c.after delta) := by
  simp [AtMost, after, bump_eq]

/-- How the state goes on within the life of a port: the parameters stay, no port appears, the counters do not go down,
and the host's intent for the lines stays, unless `w` says that it is written. -/
structure Evolves (w : Prop) (s t : State) : Prop where
  cfg : t.cfg = s.cfg
  port_none : s.port = none → t.port = none
  counters : ∀ p q, s.port = some p → t.port = some q → p.cnt.AtMost q.cnt
  intent : ∀ p q, s.port = some p → t.port = some q → q.ls.modemControl = p.ls.modemControl ∨ w

theorem Evolves.same {w : Prop} {s t : State} (hcfg : t.cfg = s.cfg) (hport : t.port = s.port) : Evolves w s t where
  cfg := hcfg
  port_none := hport.trans
  counters p q hp hq := by
    cases hp.symm.trans (hport.symm.trans hq)
    exact .refl _
  intent p q hp hq := by
    cases hp.symm.trans (hport.symm.trans hq)
    exact .inl rfl

theorem Evolves.trans {w : Prop} {s t u : State} (h : Evolves w s t) (h' : Evolves w t u) : Evolves w s u where
  cfg := h'.cfg.trans h.cfg
  port_none hp := h'.port_none (h.port_none hp)
  counters p q hp hq := by
    cases ht : t.port with
    | none => simp [h'.port_none ht] at hq
    | some r => exact (h.counters p r hp ht).trans (h'.counters r q ht hq)
  intent p q hp hq := by
    cases ht : t.port with
    | none => simp [h'.port_none ht] at hq
    | some r =>
      rcases h.intent p r hp ht with hpr | hw
      · exact (h'.intent r q ht hq).imp_left (·.trans hpr)
      · exact .inr hw

theorem Evolves.of_same {w : Prop} {s s' t : State} (h : Evolves w s' t) (hcfg : s'.cfg = s.cfg)
    (hport : s'.port = s.port) : Evolves w s t := .trans (.same hcfg hport) h

theorem Evolves.write {w : Prop} {s t : State} {p q : Port} (hcfg : t.cfg = s.cfg) (hp : s.port = some p)
    (hq : t.port = some q) (hcnt : p.cnt.AtMost q.cnt) (hintent : q.ls.modemControl = p.ls.modemControl ∨ w) :
    Evolves w s t where
  cfg := hcfg
  port_none hn := by simp [hp] at hn
  counters p' q' hp' hq' := by
    cases hp.symm.trans hp'
    cases hq.symm.trans hq'
    exact hcnt
  intent p' q' hp' hq' := by
    cases hp.symm.trans hp'
    cases hq.symm.trans hq'
    exact hintent

theorem Touches.evolves {pos : Pos} {s t : State} (h : Touches pos s t) (w : Prop) : Evolves w s t where
  cfg := h.cfg
  port_none := h.port_none
  counters p q hp hq := (h.writes p q hp hq).counters ▸ .refl _
  intent p q hp hq := .inl (h.writes p q hp hq).control

theorem Handles.evolves {m : MonPos} {s t : State} (h : Handles s m t) (w : Prop) : Evolves w s t := by
  cases h with
  | discarded => exact .same rfl rfl
  | stored _ hp => exact .write rfl hp rfl (.refl _) (.inl rfl)
  | counted hp => exact .write rfl hp rfl (Counters.atMost_after _ _) (.inl rfl)
  | rearmed hp =>
    obtain ⟨q, gs, n, es, hls, hcnt, -, -, heq, -⟩ := rearm_frame hp
    rw [heq]
    exact .write rfl hp rfl (hcnt ▸ .refl _) (.inl (by rw [hls]))

theorem runMonitor_evolves {n : Nat} {s t : State} (h : runMonitor n s = .next t) (w : Prop) : Evolves w s t :=
  runMonitor_next (I := Evolves w s) (fun _ _ _ hs _ hg => hs.trans ((handles_of_next hg).evolves w)) n s t
    (.same rfl rfl) h

theorem proceedMonitor_evolves {s t : State} (h : proceedMonitor s = .next t) (w : Prop) : Evolves w s t := by
  unfold proceedMonitor at h
  split at h
  · cases h
    exact .same rfl rfl
  · exact (runMonitor_evolves h w).of_same rfl rfl

/-- What is to hold along an invocation, from `s` on. -/
abbrev Seg.EvolvesFrom (w : Prop) (s : State) (op : Instr) (seg : Seg) : Prop :=
  seg.Sat (fun _ _ t => Evolves w s t) (Evolves w s) op

/-- A segment that leaves a state in which the port has evolved. -/
theorem evolvesFrom_of_state {w : Prop} {s : State} {seg : Seg} (h : ∀ t, seg.state = some t → Evolves w s t)
    (op : Instr) : seg.EvolvesFrom w s op := by
  cases seg with
  | fault => trivial
  | ret r t => exact (h t rfl).trans (.same rfl rfl)
  | _ => exact h _ rfl

theorem drive_evolves {w : Prop} {n : Nat} {op : Instr} {seg : Seg} {s t : State} (hseg : seg.EvolvesFrom w s op)
    (h : drive n op seg = .next t) : Evolves w s t :=
  drive_next (I := fun _ _ t => Evolves w s t)
    (fun op pos u hu => evolvesFrom_of_state (fun _ ht => hu.trans (((advance_takes pos u).touches ht).evolves w)) op)
    (fun _ _ _ hu => hu.trans (.same rfl rfl)) n op seg t hseg h

theorem proceedTask_evolves {k : Nat} {s t : State} (h : proceedTask k s = .next t) (w : Prop) : Evolves w s t := by
  unfold proceedTask at h
  split at h
  · cases h
    exact .same rfl rfl
  · refine drive_evolves (evolvesFrom_of_state (fun u hu => ?_) _) h
    exact (((advance_takes _ _).touches hu).evolves w).of_same rfl rfl

/-- The operations that write the host's intent for the lines, CLAIM apart. -/
def WritesIntent (i : Instr) : Prop := (∃ a b, i = .setLines a b) ∨ ∃ on, i = .raiseLines on

theorem Begins.evolves {op : Instr} {s t : State} {seg : Seg} (hb : Begins s op seg) (hst : seg.state = some t) :
    Evolves (WritesIntent op) s t ∨ (op = .claim ∧ s.phase = .released ∧ ∃ r u, seg = .ret r u ∧ u.cfg = s.cfg) := by
  cases hb with
  | noPort => cases hst
  | claimed hphase => exact .inr ⟨rfl, hphase, _, _, rfl, rfl⟩
  | linesSet hp =>
    cases hst
    exact .inl (.write rfl hp rfl (.refl _) (.inr (.inl ⟨_, _, rfl⟩)))
  | linesRaised hp =>
    cases hst
    exact .inl (.write rfl hp rfl (.refl _) (.inr (.inr ⟨_, rfl⟩)))
  | subscribed hp hls hcnt =>
    cases hst
    exact .inl (.write rfl hp rfl (hcnt ▸ .refl _) (.inl (by rw [hls])))
  | unsubscribed hp | resumed hp | released hp =>
    cases hst
    exact .inl (.write rfl hp rfl (.refl _) (.inl rfl))
  | _ =>
    cases hst
    exact .inl (.same rfl rfl)

/-- Every operation but a CLAIM that creates a port. -/
theorem exec_evolves {i : Instr} {s t : State} (h : exec i s = .next t) :
    Evolves (WritesIntent i) s t ∨ (i = .claim ∧ s.phase = .released ∧ t.cfg = s.cfg) := by
  cases hn : isNotification i with
  | true =>
    cases i with
    | notify d =>
      obtain ⟨-, heq⟩ | ⟨p, -, hp, -, heq⟩ := exec_notify_cases d s
      · cases heq.symm.trans h
        exact .inl (.same rfl rfl)
      · have hdeliver : Evolves (WritesIntent (.notify d)) s (s.takeSlice.deliver p d) :=
          .write rfl hp rfl (.refl _) (.inl rfl)
        exact .inl (hdeliver.trans (runMonitor_evolves (heq.symm.trans h) _))
    | _ => cases hn
  | false =>
    obtain heq | ⟨-, heq⟩ | ⟨seg, -, -, heq, hb⟩ := exec_cases hn s
    · cases heq.symm.trans h
      exact .inl (.same rfl rfl)
    · cases heq.symm.trans h
    · have hdrive := heq.symm.trans h
      by_cases hclaim : i = .claim ∧ s.phase = .released ∧ ∃ r u, seg = .ret r u ∧ u.cfg = s.cfg
      · obtain ⟨hi, hphase, r, u, rfl, hcfg⟩ := hclaim
        rw [drive_ret] at hdrive
        cases hdrive
        exact .inr ⟨hi, hphase, hcfg⟩
      · refine .inl ((drive_evolves (s := s.takeSlice) (evolvesFrom_of_state ?_ _) hdrive).of_same rfl rfl)
        exact fun u hu => (hb.evolves hu).resolve_right hclaim

/-- Every step: the state evolves, by one of the line operations where the host's intent is written, or CLAIM creates a
port. -/
theorem step_evolves {s t : State} (h : step s = .next t) :
    Evolves (∃ e rest i, s.inbox = .call e :: rest ∧ decode e = .ok i ∧ WritesIntent i) s t ∨
      (t.cfg = s.cfg ∧ s.phase = .released ∧ ∃ e rest, s.inbox = .call e :: rest ∧ decode e = .ok .claim) := by
  obtain ⟨rest, hs⟩ := step_steps s
  rw [h] at hs
  generalize hout : Host.Outcome.next t = out at hs
  cases hs with
  | operation hin hd =>
    obtain hev | ⟨rfl, hphase, hcfg⟩ := exec_evolves hout.symm
    · refine .inl ⟨hev.cfg, hev.port_none, hev.counters, fun p q hp hq => ?_⟩
      exact (hev.intent p q hp hq).imp_right fun hw => ⟨_, _, _, hin, hd, hw⟩
    · exact .inr ⟨hcfg, hphase, _, _, hin, hd⟩
  | unknownCommand =>
    cases hout
    exact .inl (.same rfl rfl)
  | unknownFrame => cases hout
  | invocation k => exact .inl ((proceedTask_evolves hout.symm _).of_same rfl rfl)
  | handler => exact .inl ((proceedMonitor_evolves hout.symm _).of_same rfl rfl)
  | idle =>
    cases hout
    exact .inl (.same rfl rfl)

/-- Settles O52. -/
theorem stepKeepsParameters : Obligations.StepKeepsParameters := by
  intro s t h
  obtain hev | ⟨hcfg, -⟩ := step_evolves h
  · exact hev.cfg
  · exact hcfg

/-- Settles O54: the intent is written by a line operation, or with the whole port by CLAIM. -/
theorem onlyLineOperationsWriteIntent : Obligations.OnlyLineOperationsWriteIntent := by
  intro s t p q h hp hq hne
  obtain hev | ⟨-, -, e, rest, hin, hd⟩ := step_evolves h
  · obtain ⟨e, rest, i, hin, hd, hw⟩ := (hev.intent p q hp hq).resolve_left hne
    exact ⟨e, rest, i, hin, hd, .inr hw⟩
  · exact ⟨e, rest, _, hin, hd, .inl rfl⟩

/-- Settles O56: the invariant shuts out a CLAIM where a port exists. -/
theorem countersNeverGoDown : Obligations.CountersNeverGoDown := by
  intro s t p q hinv h hp hq
  obtain hev | ⟨-, hphase, -⟩ := step_evolves h
  · exact hev.counters p q hp hq
  · simp [hinv.exists_iff.2 hphase] at hp

end Sys2Proof.Machine
end

section
/-!
The status monitor's operations (43_status_monitor.md): a delivery handled to its end, the re-arm, what the handler
leaves alone, SUBSCRIBE and UNSUBSCRIBE.
-/

namespace Sys2Proof.Machine

/-! ## The re-arm (R177) -/

theorem rearm_not_due {s : State} {p : Port} (h : p.stopRearm = true ∨ p.subArmed = true) :
    s.rearm p = { s with monitor := none } := by
  obtain ⟨-, heq⟩ | ⟨hstop, harm, -⟩ := rearm_spec s p
  · exact heq
  · simp [hstop, harm] at h

theorem rearm_due {s : State} {p : Port} (hstop : p.stopRearm = false) (harm : p.subArmed = false) :
    s.rearm p = { s.afterSubmit with
      monitor := none
      port := some { p with subArmed := s.grant, monitorLost := p.monitorLost || !s.grant }
      out := s.out ++ if s.grant then [.submit] else [.submit, .monitorLost] } := by
  cases hg : s.grant <;> simp [State.rearm, hstop, harm, submit_eq, hg, State.setPort, State.emit]

/-! ## A delivery handled to its end -/

@[simp] theorem Port.notified_monitorLost (p : Port) (d : Delivery) : (p.notified d).monitorLost = p.monitorLost := rfl

@[simp] theorem Port.consumed_notifiedEvents (p : Port) (d : Delivery) :
    p.consumed.notifiedEvents d = p.notifiedEvents d := rfl

theorem Port.consumed_notified (p : Port) (d : Delivery) :
    p.consumed.notified d = { p.notified d with subArmed := false } := rfl

/-- With no schedule listed, a delivery that is due is handled and the subscription is re-armed, or is not where that is
forbidden. -/
theorem exec_notify_rearms {s : State} {p : Port} (d : Delivery) (hs : s.slices = []) (hm : s.monitor = none)
    (hp : s.port = some p) (ha : p.subArmed = true) :
    exec (.notify d) s = .next { (if p.stopRearm then s else s.afterSubmit) with
      port := some { p.notified d with
        subArmed := !p.stopRearm && s.grant
        monitorLost := p.monitorLost || (!p.stopRearm && !s.grant) }
      out := s.out ++ p.notifiedEvents d ++
        (if p.stopRearm then [] else if s.grant then [.submit] else [.submit, .monitorLost]) } := by
  rw [exec_notify_undisturbed d hs hm hp ha]
  cases hstop : p.stopRearm with
  | true =>
    rw [rearm_not_due (p := p.consumed.notified d) (.inl hstop)]
    simp [State.notified, Port.consumed_notified, ← hm]
  | false =>
    rw [rearm_due (p := p.consumed.notified d) hstop rfl]
    simp [State.notified, Port.consumed_notified, State.afterSubmit, State.grant, ← hm]

/-- A mask with one bit set looks at that bit. -/
theorem anyBit_twoPow (b : Byte) (i : Nat) : anyBit b (BitVec.twoPow 8 i) = b.getLsbD i := by
  rw [anyBit, BitVec.and_twoPow]
  cases hbit : b.getLsbD i with
  | false => rfl
  | true =>
    have hne : BitVec.twoPow 8 i ≠ 0 := fun h => by
      have hi := congrArg (·.getLsbD i) h
      simp [BitVec.lt_of_getLsbD hbit] at hi
    simpa using hne

theorem carrierEvents_eq (delta status : Byte) :
    carrierEvents delta status = if delta.getLsbD 3 then [.carrierChange (status.getLsbD 3)] else [] := by
  have hdcd (b : Byte) : anyBit b Config.stDcd = b.getLsbD 3 := anyBit_twoPow b 3
  simp only [carrierEvents, hdcd]

/-- Settles O31: the record carries a status, which is stored and counted before the re-arm. -/
theorem notifyCompletes : Obligations.NotifyCompletes := by
  intro b0 flags inv b3 more s p hs hm hp ha status delta s'
  have hd : deliveredStatus (.record (b0 :: flags :: inv :: b3 :: more)) = some status := rfl
  rw [exec_notify_rearms _ hs hm hp ha, p.notifiedEvents_status hd, p.notified_status hd, carrierEvents_eq]
  simp only [Counters.after, bump_eq]
  rfl

/-- Settles O32: a delivery without a status goes to the re-arm, and the port is left as it was until then. -/
theorem malformedNotifyOnlyRearms : Obligations.MalformedNotifyOnlyRearms := by
  intro d s p hd hs hm hp ha s'
  have hnone : deliveredStatus d = none := by
    obtain rfl | ⟨bytes, rfl, hlen⟩ := hd
    · rfl
    · match bytes, hlen with
      | [], _ | [_], _ | [_, _], _ | [_, _, _], _ => rfl
  rw [exec_notify_rearms d hs hm hp ha, p.notified_discarded hnone, p.notifiedEvents_discarded hnone, List.append_nil]

/-! ## What is not delivered (R65, R180) -/

theorem exec_notify_not_due {s : State} (h : s.deliverable = false) (d : Delivery) : exec (.notify d) s = .next s := by
  simp [exec_notify, execNotify, h]

theorem deliverable_eq_false_iff (s : State) :
    s.deliverable = false ↔ s.monitor ≠ none ∨ s.port = none ∨ ∃ p, s.port = some p ∧ p.subArmed = false := by
  rw [← Bool.not_eq_true, deliverable_iff]
  cases s.port <;> simp [Classical.or_iff_not_imp_left]

/-- UNSUBSCRIBE leaves no subscription outstanding, in any phase and under any schedule. -/
theorem deliverable_of_unsubscribe {s t : State} (h : exec .unsubscribe s = .next t) : t.deliverable = false := by
  rw [deliverable_eq_false_iff]
  rw [exec_unsubscribe, invokeOnPort] at h
  cases hp : s.port with
  | none =>
    rw [hp] at h
    cases h
    exact .inr (.inl hp)
  | some p =>
    rw [hp] at h
    obtain ⟨hl, -⟩ | ⟨-, -, heq⟩ | ⟨-, -, heq⟩ := invoke_cases .unsubscribe s fun s => .ret (.ok .unit) (s.unsubscribe p)
    · cases hl
    · cases heq.symm.trans h
    · rw [drive_ret] at heq
      cases heq.symm.trans h
      exact .inr (.inr ⟨_, rfl, rfl⟩)

/-- Settles O33. -/
theorem nothingDeliveredUnarmed : Obligations.NothingDeliveredUnarmed :=
  ⟨fun d s h => exec_notify_not_due ((deliverable_eq_false_iff s).2 h) d,
    fun d _ _ h => exec_notify_not_due (deliverable_of_unsubscribe h) d⟩

/-! ## Only the status nibble matters (R172) -/

theorem decodeStatus_getLsbD (b : Byte) {i : Nat} (hi : i < 4) : (decodeStatus b).getLsbD i = !b.getLsbD i := by
  have hmask : ∀ j : Fin 4, Config.statusMask.getLsbD j = true := by decide
  have hlt : i < 8 := by omega
  simp only [decodeStatus, not8, BitVec.getLsbD_and, BitVec.getLsbD_not, hmask ⟨i, hi⟩, hlt, decide_true,
    Bool.true_and, Bool.and_true]

theorem not8_and_mask (a m : Byte) : not8 a &&& m = not8 (a &&& m) &&& m := by
  ext i hi
  simp only [not8, BitVec.getElem_and, BitVec.getElem_not]
  cases a[i] <;> cases m[i] <;> rfl

/-- The decoded status depends on the low four bits alone. -/
theorem decodeStatus_congr {a b : Byte} (h : a &&& 0x0F = b &&& 0x0F) : decodeStatus a = decodeStatus b := by
  rw [decodeStatus, decodeStatus, not8_and_mask a, not8_and_mask b]
  exact congrArg (fun c => not8 c &&& Config.statusMask) h

theorem storeStatus_congr {a b : Byte} (h : decodeStatus a = decodeStatus b) (s : State) :
    storeStatus a s = storeStatus b s := by
  simp only [storeStatus, h]

/-- With no schedule listed, only the status a delivery carries decides what comes of it. -/
theorem exec_notify_congr {d d' : Delivery} (h : deliveredStatus d = deliveredStatus d') {s : State}
    (hs : s.slices = []) : exec (.notify d) s = exec (.notify d') s := by
  cases hdue : s.deliverable with
  | false => rw [exec_notify_not_due hdue, exec_notify_not_due hdue]
  | true =>
    obtain ⟨hm, p, hp, ha⟩ := (deliverable_iff s).1 hdue
    rw [exec_notify_rearms d hs hm hp ha, exec_notify_rearms d' hs hm hp ha]
    simp only [Port.notified, Port.notifiedEvents, Port.statusAfter, h]

/-- Settles O34: the third byte is looked at in the first segment only, through its decoded status. -/
theorem onlyStatusNibbleMatters : Obligations.OnlyStatusNibbleMatters := by
  intro a0 a1 a2 a3 b0 b1 b2 b3 as bs s hnibble
  have hstatus := decodeStatus_congr hnibble
  refine ⟨storeStatus_congr hstatus s, fun hs => exec_notify_congr (by exact congrArg some hstatus) hs,
    fun p hs hm hp ha => ?_⟩
  exact ⟨_, _, exec_notify_rearms _ hs hm hp ha, rfl, fun i hi => decodeStatus_getLsbD a2 hi⟩

/-! ## What the handler leaves alone (R176, R243) -/

/-- What a delivery and the handler leave alone: the command agent's state, and of the port what the monitor does not
write; they send no control frame. -/
structure Monitored (s t : State) : Prop where
  cfg : t.cfg = s.cfg
  phase : t.phase = s.phase
  pool : t.pool = s.pool
  inbox : t.inbox = s.inbox
  answers : t.answers = s.answers
  port : ∀ p, s.port = some p → ∃ q, t.port = some q ∧ q.ls.baudRate = p.ls.baudRate ∧
    q.ls.frameFormat = p.ls.frameFormat ∧ q.ls.modemControl = p.ls.modemControl ∧ q.stopRearm = p.stopRearm
  port_none : s.port = none → t.port = none
  out : ∃ es, t.out = s.out ++ es ∧ ∀ f, .sent f ∉ es

theorem Monitored.refl (s : State) : Monitored s s where
  cfg := rfl
  phase := rfl
  pool := rfl
  inbox := rfl
  answers := rfl
  port p hp := ⟨p, hp, rfl, rfl, rfl, rfl⟩
  port_none := id
  out := ⟨[], by simp, by simp⟩

theorem Monitored.trans {s t u : State} (h : Monitored s t) (h' : Monitored t u) : Monitored s u where
  cfg := h'.cfg.trans h.cfg
  phase := h'.phase.trans h.phase
  pool := h'.pool.trans h.pool
  inbox := h'.inbox.trans h.inbox
  answers := h'.answers.trans h.answers
  port p hp := by
    obtain ⟨q, hq, hrate, hformat, hcontrol, hstop⟩ := h.port p hp
    obtain ⟨r, hr, hrate', hformat', hcontrol', hstop'⟩ := h'.port q hq
    exact ⟨r, hr, hrate'.trans hrate, hformat'.trans hformat, hcontrol'.trans hcontrol, hstop'.trans hstop⟩
  port_none hp := h'.port_none (h.port_none hp)
  out := by
    obtain ⟨es, hout, hsent⟩ := h.out
    obtain ⟨es', hout', hsent'⟩ := h'.out
    exact ⟨es ++ es', by rw [hout', hout, List.append_assoc], fun f => by simp [hsent f, hsent' f]⟩

theorem sent_not_mem_carrierEvents (f : Frame) (delta st : Byte) : .sent f ∉ carrierEvents delta st := by
  unfold carrierEvents
  split <;> simp

theorem Handles.monitored {m : MonPos} {s t : State} (h : Handles s m t) : Monitored s t := by
  cases h with
  | discarded => exact ⟨rfl, rfl, rfl, rfl, rfl, (Monitored.refl s).port, id, [], by simp, by simp⟩
  | stored _ hp =>
    refine ⟨rfl, rfl, rfl, rfl, rfl, fun p' hp' => ?_, fun hn => by simp [hp] at hn, [], by simp, by simp⟩
    cases hp.symm.trans hp'
    exact ⟨_, rfl, rfl, rfl, rfl, rfl⟩
  | counted hp =>
    refine ⟨rfl, rfl, rfl, rfl, rfl, fun p' hp' => ?_, fun hn => by simp [hp] at hn, _, rfl,
      fun f => sent_not_mem_carrierEvents f _ _⟩
    cases hp.symm.trans hp'
    exact ⟨_, rfl, rfl, rfl, rfl, rfl⟩
  | rearmed hp =>
    obtain ⟨q, gs, n, es, hls, -, hstop, hsent, heq, -⟩ := rearm_frame hp
    rw [heq]
    refine ⟨rfl, rfl, rfl, rfl, rfl, fun p' hp' => ?_, fun hn => by simp [hp] at hn, es, rfl, hsent⟩
    cases hp.symm.trans hp'
    exact ⟨q, rfl, by rw [hls], by rw [hls], by rw [hls], hstop⟩

theorem deliver_monitored {s : State} {p : Port} (hp : s.port = some p) (d : Delivery) :
    Monitored s (s.takeSlice.deliver p d) := by
  refine ⟨rfl, rfl, rfl, rfl, rfl, fun p' hp' => ?_, fun hn => by simp [hp] at hn, [], by simp, by simp⟩
  cases hp.symm.trans hp'
  exact ⟨_, rfl, rfl, rfl, rfl, rfl⟩

theorem takeSlice_monitored (s : State) : Monitored s s.takeSlice :=
  ⟨rfl, rfl, rfl, rfl, rfl, (Monitored.refl s).port, id, [], by simp, by simp⟩

/-- The induction over a delivery or a handler that goes on, once: what the delivery and every segment of the handler
keep holds where the handler stops moving. -/
theorem monitor_rule {R : State → State → Prop} (hrefl : ∀ s, R s s) (htrans : ∀ {s t u}, R s t → R t u → R s u)
    (htake : ∀ s : State, R s s.takeSlice)
    (hdeliver : ∀ {s : State} {p : Port}, s.port = some p → p.subArmed = true → ∀ d, R s (s.takeSlice.deliver p d))
    (hseg : ∀ {m s t}, Handles s m t → R s t) {d : Delivery} {s t : State}
    (h : exec (.notify d) s = .next t ∨ proceedMonitor s = .next t) : R s t := by
  have hrun {n : Nat} {s t : State} (h : runMonitor n s = .next t) : R s t :=
    runMonitor_next (I := R s) (fun _ _ _ hs _ hg => htrans hs (hseg (handles_of_next hg))) n s t (hrefl s) h
  rcases h with h | h
  · obtain ⟨-, heq⟩ | ⟨p, -, hp, ha, heq⟩ := exec_notify_cases d s
    · cases heq.symm.trans h
      exact hrefl s
    · exact htrans (hdeliver hp ha d) (hrun (heq.symm.trans h))
  · unfold proceedMonitor at h
    split at h
    · cases h
      exact hrefl s
    · exact htrans (htake s) (hrun h)

/-- Settles O36. -/
theorem monitorLeavesCommandAgentAlone : Obligations.MonitorLeavesCommandAgentAlone := by
  intro d s t h
  obtain ⟨hcfg, hphase, hpool, hinbox, hanswers, hport, hnone, hout⟩ :=
    monitor_rule Monitored.refl Monitored.trans takeSlice_monitored (fun hp _ => deliver_monitored hp)
      Handles.monitored h
  exact ⟨hcfg, hphase, hpool, hinbox, hanswers, hport, hnone, hout⟩

/-! ## Re-arming only when due (R177, R275) -/

/-- With re-arming forbidden, nothing is submitted and no subscription appears. -/
def SubmitsNothing (s t : State) : Prop :=
  ∀ p, s.port = some p → p.stopRearm = true →
    ∃ q es, t.port = some q ∧ q.stopRearm = true ∧ (q.subArmed = true → p.subArmed = true) ∧
      t.grants = s.grants ∧ t.asked = s.asked ∧ t.out = s.out ++ es ∧ .submit ∉ es

theorem SubmitsNothing.refl (s : State) : SubmitsNothing s s :=
  fun p hp hstop => ⟨p, [], hp, hstop, id, rfl, rfl, by simp, by simp⟩

theorem SubmitsNothing.trans {s t u : State} (h : SubmitsNothing s t) (h' : SubmitsNothing t u) :
    SubmitsNothing s u := by
  intro p hp hstop
  obtain ⟨q, es, hq, hstopq, harm, hgrants, hasked, hout, hes⟩ := h p hp hstop
  obtain ⟨r, es', hr, hstopr, harm', hgrants', hasked', hout', hes'⟩ := h' q hq hstopq
  exact ⟨r, es ++ es', hr, hstopr, harm ∘ harm', hgrants'.trans hgrants, hasked'.trans hasked,
    by rw [hout', hout, List.append_assoc], by simp [hes, hes']⟩

theorem SubmitsNothing.takeSlice (s : State) : SubmitsNothing s s.takeSlice :=
  fun p hp hstop => ⟨p, [], hp, hstop, id, rfl, rfl, by simp, by simp⟩

theorem deliver_submitsNothing {s : State} {p : Port} (hp : s.port = some p) (ha : p.subArmed = true) (d : Delivery) :
    SubmitsNothing s (s.takeSlice.deliver p d) := by
  intro p' hp' hstop
  cases hp.symm.trans hp'
  exact ⟨_, [], rfl, hstop, fun _ => ha, rfl, rfl, by simp, by simp⟩

theorem submit_not_mem_carrierEvents (delta st : Byte) : .submit ∉ carrierEvents delta st := by
  unfold carrierEvents
  split <;> simp

theorem Handles.submitsNothing {m : MonPos} {s t : State} (h : Handles s m t) : SubmitsNothing s t := by
  intro p hp hstop
  cases h with
  | discarded => exact ⟨p, [], hp, hstop, id, rfl, rfl, by simp, by simp⟩
  | stored _ hp' =>
    cases hp.symm.trans hp'
    exact ⟨_, [], rfl, hstop, id, rfl, rfl, by simp, by simp⟩
  | counted hp' =>
    cases hp.symm.trans hp'
    exact ⟨_, _, rfl, hstop, id, rfl, rfl, rfl, submit_not_mem_carrierEvents _ _⟩
  | rearmed hp' =>
    cases hp.symm.trans hp'
    rw [rearm_not_due (.inl hstop)]
    exact ⟨p, [], hp, hstop, id, rfl, rfl, by simp, by simp⟩

/-- A handler that stands before the re-arm ends with it. -/
theorem proceedMonitor_rearm {s : State} {p : Port} (hm : s.monitor = some .rearm) (hp : s.port = some p) :
    proceedMonitor s = .next (s.takeSlice.rearm p) := by
  have hstep := runMonitor_segment (n := s.slice) (s := s.takeSlice) hm (monitorSegment_rearm hp)
  rw [runMonitor_none (State.rearm_monitor _ _)] at hstep
  simpa only [proceedMonitor, hm] using hstep

/-- Settles O37: the re-arm's block by its four rows, and the rest by `SubmitsNothing`. -/
theorem rearmOnlyWhenDue : Obligations.RearmOnlyWhenDue := by
  refine ⟨fun s p hm hp => ⟨fun hdue => ?_, fun hstop harm => ?_⟩, fun d s t p hp hstop h => ?_⟩
  · rw [proceedMonitor_rearm hm hp, rearm_not_due hdue]
    rfl
  · rw [proceedMonitor_rearm hm hp, rearm_due hstop harm]
    rfl
  · exact monitor_rule SubmitsNothing.refl SubmitsNothing.trans SubmitsNothing.takeSlice deliver_submitsNothing
      Handles.submitsNothing h p hp hstop

/-! ## SUBSCRIBE and UNSUBSCRIBE (R178, R179) -/

/-- An operation on the port whose only segment answers and may write the state. -/
theorem invokeOnPort_returns {op : Instr} {s : State} {p : Port} {first : Port → State → Seg} {r : Result} {t : State}
    (hp : s.port = some p) (hlegal : legal op s.phase = true) (hduty : dutyKept op s = true)
    (hfirst : first p s.takeSlice = .ret r t) : invokeOnPort op s first = .next (t.respond (some op) r) := by
  simp only [invokeOnPort, hp, invoke, hlegal, hduty, if_true, hfirst, drive_ret]

theorem subscribe_armed {p : Port} (ha : p.subArmed = true) (s : State) : s.subscribe p = (true, s) := by
  simp [State.subscribe, ha]

theorem subscribe_granted {s : State} {p : Port} (ha : p.subArmed = false) (hg : s.grant = true) :
    s.subscribe p = (true, { s.afterSubmit with port := some p.armed, out := s.out ++ [.submit] }) := by
  simp [State.subscribe, ha, submit_eq, hg, State.setPort, Port.armed]

theorem subscribe_refused {s : State} {p : Port} (ha : p.subArmed = false) (hg : s.grant = false) :
    s.subscribe p = (false, { s.afterSubmit with out := s.out ++ [.submit] }) := by
  simp [State.subscribe, ha, submit_eq, hg]

/-- Settles O38: SUBSCRIBE by its three rows. -/
theorem subscribeAndUnsubscribeComplete : Obligations.SubscribeAndUnsubscribeComplete := by
  intro s p hopen hp
  refine ⟨fun ha => ?_, fun ha hg => ?_, fun ha hg => ?_, ?_⟩
  · rw [exec_subscribe, invokeOnPort_returns hp rfl (dutyKept_other rfl hopen) (by rw [subscribe_armed ha])]
    rfl
  · rw [exec_subscribe,
      invokeOnPort_returns hp rfl (dutyKept_other rfl hopen) (by rw [subscribe_granted (s := s.takeSlice) ha hg])]
    simp [State.respond, State.emit, grantResult, State.afterSubmit, Port.armed]
  · rw [exec_subscribe,
      invokeOnPort_returns hp rfl (dutyKept_other rfl hopen) (by rw [subscribe_refused (s := s.takeSlice) ha hg])]
    simp [State.respond, State.emit, grantResult, State.afterSubmit]
  · rw [exec_unsubscribe, invokeOnPort_returns hp rfl (dutyKept_other rfl hopen) rfl]
    rfl

end Sys2Proof.Machine
end

section
/-!
The rates SYNTHESIZE accepts (41_baud_synth.md R120, R126, R131), and the operation itself.
-/

namespace Sys2Proof.Machine

/-! ## Rounding division (R120) -/

/-- Settles O14: the quotient of `a + b / 2` leaves a remainder below `b`. -/
theorem roundingDivision : Obligations.RoundingDivision := by
  intro a b hb
  have hlow : b * rdiv a b ≤ a + b / 2 := Nat.mul_div_le _ _
  have hhigh : a + b / 2 < b * rdiv a b + b := by
    exact Nat.lt_mul_div_succ (a + b / 2) hb
  rw [mul_assoc, mul_assoc, Nat.mul_succ]
  omega

theorem rdiv_eq_zero_iff {a b : Nat} (hb : 0 < b) : rdiv a b = 0 ↔ a + b / 2 < b := by
  rw [rdiv, Nat.div_eq_zero_iff]
  omega

theorem rdiv_le_iff {a b n : Nat} (hb : 0 < b) : rdiv a b ≤ n ↔ a + b / 2 < (n + 1) * b := by
  rw [rdiv, ← Nat.lt_succ_iff, Nat.div_lt_iff_lt_mul hb]

theorem le_rdiv_iff {a b n : Nat} (hb : 0 < b) : n ≤ rdiv a b ↔ n * b ≤ a + b / 2 := by
  rw [rdiv, Nat.le_div_iff_mul_le hb]

/-! ## The factor of a candidate (R121) -/

theorem candidate_factor_le (clock baud : Nat) : (candidate clock baud).factor ≤ rdiv clock baud := by
  obtain ⟨j, -, heq, -⟩ := candidate_eq clock baud
  rw [heq]
  exact Nat.div_le_self _ _

/-- Three shifts are the most. -/
theorem div_512_le_candidate_factor (clock baud : Nat) : rdiv clock baud / 512 ≤ (candidate clock baud).factor := by
  obtain ⟨j, hj, heq, -⟩ := candidate_eq clock baud
  rw [heq]
  exact Nat.div_le_div_left (Nat.pow_le_pow_right (n := 8) (by decide) hj) (by positivity)

theorem candidate_factor_le_or (clock baud : Nat) :
    (candidate clock baud).factor ≤ 255 ∨ (candidate clock baud).factor = rdiv clock baud / 512 := by
  obtain ⟨j, -, heq, hexit, -⟩ := candidate_eq clock baud
  rw [heq]
  exact hexit.imp_right fun hj => by rw [hj]; rfl

/-- A shift is taken from a factor above 255 only, so that it leaves at least 32. -/
theorem candidate_factor_eq_or_ge (clock baud : Nat) :
    (candidate clock baud).factor = rdiv clock baud ∨ 32 ≤ (candidate clock baud).factor := by
  obtain ⟨j, -, heq, -, hleast⟩ := candidate_eq clock baud
  rw [heq]
  cases j with
  | zero => exact .inl (Nat.div_one _)
  | succ i =>
    have hlast : 255 < rdiv clock baud / 8 ^ i := hleast i (by omega)
    refine .inr (show 32 ≤ rdiv clock baud / 8 ^ (i + 1) from ?_)
    rw [pow_succ, ← Nat.div_div_eq_div_mul]
    omega

theorem candidate_factor_eq_zero_iff (clock baud : Nat) :
    (candidate clock baud).factor = 0 ↔ rdiv clock baud = 0 := by
  obtain ⟨j, -, heq, -, hleast⟩ := candidate_eq clock baud
  rw [heq]
  exact div_eight_pow_eq_zero_iff hleast

/-! ## Rejected and accepted rates (R126, R127) -/

theorem synthesizeRate_eq_error {b : U32}
    (h : b.toNat = 0 ∨ (candidate 6000000 b.toNat).factor = 0 ∨ (chosen b.toNat).factor < 2 ∨
      256 < (chosen b.toNat).factor) : synthesizeRate b = .error .invalidBaudRate := by
  simp only [synthesizeRate, Config.base]
  split_ifs with hzero hsingle hrange
  · rfl
  · rfl
  · rfl
  · exact absurd h (by omega)

theorem exists_synthesizeRate_eq_ok {b : U32} (hb : b.toNat ≠ 0) (hsingle : (candidate 6000000 b.toNat).factor ≠ 0)
    (hlow : 2 ≤ (chosen b.toNat).factor) (hhigh : (chosen b.toNat).factor ≤ 256) :
    ∃ plan payload, synthesizeRate b = .ok (plan, payload) := by
  simp only [synthesizeRate, Config.base]
  rw [if_neg hb, if_neg hsingle, if_neg (by omega)]
  exact ⟨_, _, rfl⟩

/-- Settles O17: the factor is 0 with the rounded quotient. -/
theorem factorZeroRejected : Obligations.FactorZeroRejected := by
  intro b hb
  have hpos : 0 < b.toNat := Nat.pos_of_ne_zero fun h => hb (BitVec.eq_of_toNat_eq h)
  have hzero : (candidate 6000000 b.toNat).factor = 0 ↔ 12000000 < b.toNat := by
    rw [candidate_factor_eq_zero_iff, rdiv_eq_zero_iff hpos]
    omega
  refine ⟨hzero, fun h => ⟨?_, synthesizeRate_eq_error (.inr (.inl h))⟩⟩
  have hfast : 12000000 < b.toNat := hzero.1 h
  exact (candidate_factor_le _ _).trans ((rdiv_le_iff hpos).2 (by omega))

/-! ## The domain (R131) -/

/-- The chosen candidate is one of the two; the double clock's only with a factor above 8. -/
theorem chosen_cases (baud : Nat) :
    chosen baud = candidate 6000000 baud ∨
      (chosen baud = candidate 12000000 baud ∧ 8 < (candidate 12000000 baud).factor) := by
  rw [chosen_eq]
  split
  next h => exact .inr ⟨rfl, ((doubleAdopted_iff baud).1 h).1⟩
  next => exact .inl rfl

/-- The rates from 46 to 91, one by one: the double clock is adopted with a factor above 256 at three of them. -/
theorem chosen_factor_le_of_low :
    ∀ i : Fin 46, (chosen (46 + i)).factor ≤ 256 ↔ 46 + i.val ≠ 82 ∧ 46 + i.val ≠ 85 ∧ 46 + i.val ≠ 91 := by
  decide

/-- From 92 on either factor fits. -/
theorem candidate_factor_le_of_high {clock baud : Nat} (hclock : clock ≤ 12000000) (hb : 92 ≤ baud) :
    (candidate clock baud).factor ≤ 256 := by
  have hq : rdiv clock baud ≤ 131071 := (rdiv_le_iff (by omega)).2 (by omega)
  rcases candidate_factor_le_or clock baud with h | h <;> omega

theorem chosen_factor_le_iff {baud : Nat} (hb : 46 ≤ baud) :
    (chosen baud).factor ≤ 256 ↔ baud ≠ 82 ∧ baud ≠ 85 ∧ baud ≠ 91 := by
  by_cases hlow : baud < 92
  · have h := chosen_factor_le_of_low ⟨baud - 46, by omega⟩
    simpa only [Nat.add_sub_cancel' hb] using h
  · have hfactor : (chosen baud).factor ≤ 256 := by
      obtain h | ⟨h, -⟩ := chosen_cases baud <;> rw [h]
      · exact candidate_factor_le_of_high (by decide) (by omega)
      · exact candidate_factor_le_of_high (by decide) (by omega)
    exact iff_of_true hfactor (by omega)

/-- Below 46 either factor is too large. -/
theorem lt_candidate_factor_of_low {clock baud : Nat} (hclock : 6000000 ≤ clock) (hpos : 0 < baud) (hb : baud < 46) :
    256 < (candidate clock baud).factor := by
  have hq : 131584 ≤ rdiv clock baud := (le_rdiv_iff hpos).2 (by omega)
  have hfactor := div_512_le_candidate_factor clock baud
  omega

theorem lt_chosen_factor_of_low {baud : Nat} (hpos : 0 < baud) (hb : baud < 46) : 256 < (chosen baud).factor := by
  obtain h | ⟨h, -⟩ := chosen_cases baud <;> rw [h]
  · exact lt_candidate_factor_of_low le_rfl hpos hb
  · exact lt_candidate_factor_of_low (by decide) hpos hb

/-- Up to 4 MBd the single-clock factor is at least 2. -/
theorem two_le_candidate_factor {baud : Nat} (hpos : 0 < baud) (hb : baud ≤ 4000000) :
    2 ≤ (candidate 6000000 baud).factor := by
  have hq : 2 ≤ rdiv 6000000 baud := (le_rdiv_iff hpos).2 (by omega)
  rcases candidate_factor_eq_or_ge 6000000 baud with h | h <;> omega

theorem two_le_chosen_factor {baud : Nat} (hpos : 0 < baud) (hb : baud ≤ 4000000) : 2 ≤ (chosen baud).factor := by
  obtain h | ⟨h, hdouble⟩ := chosen_cases baud <;> rw [h]
  · exact two_le_candidate_factor hpos hb
  · omega

/-- Above 4 MBd the single-clock factor is too small, and the double clock is not considered. -/
theorem chosen_factor_lt_two {baud : Nat} (hb : 4000000 < baud) : (chosen baud).factor < 2 := by
  have hsingle := (candidate_factor_le 6000000 baud).trans ((rdiv_le_iff (n := 1) (by omega)).2 (by omega))
  have hdouble := (candidate_factor_le 12000000 baud).trans ((rdiv_le_iff (n := 3) (by omega)).2 (by omega))
  obtain h | ⟨-, hlarge⟩ := chosen_cases baud
  · rw [h]
    omega
  · omega

/-- Bits 6 to 3 of the payload's low byte are 0: the divisor has two bits. -/
theorem payload_low_bits {divisor : Byte} (h : divisor.toNat ≤ 3) (double : Bool) :
    (0x80 ||| (if double then 0x04 else 0x00) ||| divisor) &&& 0x78 = 0 := by
  have hall : ∀ d : Fin 4, ∀ x : Bool, (0x80 ||| (if x then 0x04 else 0x00) ||| BitVec.ofNat 8 d) &&& 0x78 = 0#8 := by
    decide
  simpa using hall ⟨divisor.toNat, by omega⟩ double

theorem and_eq_pack16 (a b : U16) : a &&& b = pack16 (hi8 a &&& hi8 b) (lo8 a &&& lo8 b) := by
  rw [← pack16_hi8_lo8 (a &&& b)]
  simp only [hi8, lo8, BitVec.extractLsb'_and]

/-- The ranges of a successful answer (30_encoding.md section 2). -/
theorem synthesizeRate_ok_ranges {b : U32} {plan : BaudPlan} {payload : U16}
    (h : synthesizeRate b = .ok (plan, payload)) (hlow : 2 ≤ (chosen b.toNat).factor)
    (hhigh : (chosen b.toNat).factor ≤ 256) :
    2 ≤ plan.factor.toNat ∧ plan.factor.toNat ≤ 256 ∧ plan.divisor.toNat ≤ 3 ∧
      (hi8 payload).toNat = 256 - plan.factor.toNat ∧ payload &&& 0x0078 = 0 := by
  obtain ⟨hfactor, hdivisor, -, -⟩ := synthesizeRate_ok h
  obtain ⟨hhi, hlo, -⟩ := payloadForm b plan payload h
  have hdiv : plan.divisor.toNat ≤ 3 := hdivisor ▸ chosen_divisor_le b.toNat
  refine ⟨hfactor ▸ hlow, hfactor ▸ hhigh, hdiv, ?_, ?_⟩
  · rw [hhi, BitVec.toNat_ofNat]
    exact Nat.mod_eq_of_lt (by omega)
  · have hmask : hi8 (0x0078 : U16) = 0#8 ∧ lo8 (0x0078 : U16) = 0x78 := by decide
    rw [and_eq_pack16, hmask.1, hmask.2, hlo, payload_low_bits hdiv, BitVec.and_zero]
    rfl

/-- Settles O20: the bounds of the chosen factor, from both sides. -/
theorem synthesizeDomain : Obligations.SynthesizeDomain := by
  intro b
  refine ⟨fun ⟨hmin, hmax, hexcept⟩ => ?_, fun hout => ?_⟩
  · have hlow := two_le_chosen_factor (by omega) hmax
    have hhigh := (chosen_factor_le_iff hmin).2 hexcept
    have hsingle := two_le_candidate_factor (by omega) hmax
    obtain ⟨plan, payload, h⟩ := exists_synthesizeRate_eq_ok (by omega) (by omega) hlow hhigh
    exact ⟨plan, payload, h, synthesizeRate_ok_ranges h hlow hhigh⟩
  · refine synthesizeRate_eq_error ?_
    by_cases hzero : b.toNat = 0
    · exact .inl hzero
    by_cases hmin : 46 ≤ b.toNat
    · by_cases hmax : b.toNat ≤ 4000000
      · have hhigh := mt (chosen_factor_le_iff hmin).1 fun h => hout ⟨hmin, hmax, h⟩
        omega
      · exact .inr (.inr (.inl (chosen_factor_lt_two (by omega))))
    · exact .inr (.inr (.inr (lt_chosen_factor_of_low (by omega) (by omega))))

theorem exec_synthesize_of_accepted {b : U32} {plan : BaudPlan} {payload : U16} {s : State}
    (h : synthesizeRate b = .ok (plan, payload)) (hs : s.OpenToHost) :
    exec (.synthesize b) s = .next { s with
      slices := s.slices.tail, out := s.out ++ [.result (some (.synthesize b)) (.ok (.plan plan payload))] } := by
  rw [exec_synthesize, execSynthesize]
  exact invoke_returns rfl (dutyKept_other rfl hs) (by simp [h])

/-- Settles O21. -/
theorem synthesizeCompletes : Obligations.SynthesizeCompletes :=
  fun _ _ hs => ⟨fun _ _ h => exec_synthesize_of_accepted h hs, fun _ h => exec_synthesize_of_rejected h hs⟩

end Sys2Proof.Machine
end

section
/-!
Operations run to their end where nothing disturbs them: one rule for a whole transfer, what follows it, and with these
the register codec (40_register_codec.md), PROGRAM_LINE (41_baud_synth.md section 4), the modem lines
(42_modem_lines.md) and the break (44_break.md).
-/

namespace Sys2Proof.Machine

/-! ## A whole transfer -/

/-- The state once a frame has been sent and its answer taken. -/
def State.transferred (s : State) (f : Frame) (rest : List Answer) : State :=
  { s with answers := rest, out := s.out ++ [.sent f] }

theorem transferred_respond (s : State) (f : Frame) (rest : List Answer) (op : Option Instr) (r : Result) :
    (s.transferred f rest).respond op r = { s with answers := rest, out := s.out ++ [.sent f, .result op r] } := by
  simp [State.transferred, State.respond, State.emit]

theorem transferred_setPort_respond (s : State) (f : Frame) (rest : List Answer) (q : Port) (op : Option Instr)
    (r : Result) : ((s.transferred f rest).setPort q).respond op r =
      { s with port := some q, answers := rest, out := s.out ++ [.sent f, .result op r] } := by
  simp [State.transferred, State.setPort, State.respond, State.emit]

/-- An operation that begins with a transfer, run undisturbed: what follows is decided by the transfer's outcome. -/
theorem invoke_transfer {op : Instr} {s s' : State} {first : State → Seg} {f : Frame} {k : After} {a : Answer}
    {rest : List Answer} (hlegal : legal op s.phase = true) (hduty : dutyKept op s = true) (hs : s.slices = [])
    (hfirst : first s = .go (.send f k) s') (hc : s'.channelBusy = false) (ha : s'.answers = a :: rest) :
    invoke op s first = drive 61 op (afterTransfer k (f.outcome a) (s'.transferred f rest)) := by
  rw [invoke_run hlegal hduty hs, hfirst]
  exact drive_transfer 61 op f k s' a rest hc ha

theorem afterTransfer_ret {f : Frame} (h : f.dir = .toDevice) (a : Answer) (s : State) :
    afterTransfer .ret (f.outcome a) s = .ret a.outResult s := by
  obtain ⟨b, hok, hres⟩ | ⟨herr, hres⟩ := outcome_outResult h a
  · rw [hok, hres]
    rfl
  · rw [herr, hres]
    rfl

theorem afterTransfer_secondWrite_direct {f : Frame} (h : f.dir = .toDevice) (a : Answer) (s : State) :
    afterTransfer (.secondWrite .direct) (f.outcome a) s = .ret a.outResult s := by
  obtain ⟨b, hok, hres⟩ | ⟨herr, hres⟩ := outcome_outResult h a
  · rw [hok, hres]
    rfl
  · rw [herr, hres]
    rfl

theorem afterTransfer_retBytes {f : Frame} (h : f.dir = .toHost) (a : Answer) (s : State) :
    afterTransfer .retBytes (f.outcome a) s = .ret (a.inResult f.length.toNat) s := by
  obtain ⟨b, hok, hres⟩ | ⟨e, herr, hres⟩ := outcome_inResult h a
  · rw [hok, hres]
    rfl
  · rw [herr, hres]
    rfl

/-! ## The register codec -/

/-- An operation that is one transfer, run undisturbed. -/
theorem invoke_one_transfer {op : Instr} {s s' : State} {first : State → Seg} {f : Frame} {k : After} {a : Answer}
    {rest : List Answer} {r : Result} (hlegal : legal op s.phase = true) (hkind : isLifecycle op = false)
    (hs : s.Undisturbed) (hfirst : first s = .go (.send f k) s') (hpool : s'.pool = s.pool)
    (ha : s'.answers = a :: rest) (hres : ∀ t, afterTransfer k (f.outcome a) t = .ret r t) :
    invoke op s first = .next { s' with answers := rest, out := s'.out ++ [.sent f, .result (some op) r] } := by
  obtain ⟨hslices, hc, hopen⟩ := hs
  rw [invoke_transfer hlegal (dutyKept_other hkind hopen) hslices hfirst ((channelBusy_congr hpool).trans hc) ha, hres,
    drive_ret, transferred_respond]

/-- Settles O10: each of the three is one `OUT` transfer. -/
theorem outOperationsComplete : Obligations.OutOperationsComplete := by
  intro selector value ctl s a rest hs ha done
  refine ⟨?_, ?_, ?_⟩
  · rw [exec_writeReg]
    exact invoke_one_transfer rfl rfl hs rfl rfl ha (afterTransfer_ret rfl a)
  · rw [exec_serialInit]
    exact invoke_one_transfer rfl rfl hs rfl rfl ha (afterTransfer_ret rfl a)
  · rw [exec_modemCtrl]
    exact invoke_one_transfer rfl rfl hs rfl rfl ha (afterTransfer_ret rfl a)

theorem readRegFrame_length {n : Nat} (h : n ≤ 65535) (sel : U16) : (readRegFrame sel n).length.toNat = n :=
  Nat.mod_eq_of_lt (by omega)

/-- Settles O11: each of the two is one `IN` transfer. -/
theorem inOperationsComplete : Obligations.InOperationsComplete := by
  intro selector len s a rest hmin hmax hs ha done
  refine ⟨?_, ?_⟩
  · have hread := afterTransfer_retBytes (f := readRegFrame selector len) rfl a
    rw [readRegFrame_length hmax] at hread
    rw [exec_readReg ⟨hmin, hmax⟩]
    exact invoke_one_transfer rfl rfl hs rfl rfl ha hread
  · rw [exec_readVersion]
    exact invoke_one_transfer rfl rfl hs rfl rfl ha (afterTransfer_retBytes rfl a)

/-! ## PROGRAM_LINE -/

/-- Settles O22: the two writes, one after the other. -/
theorem programLineCompletes : Obligations.ProgramLineCompletes := by
  intro b f s hs op
  obtain ⟨hslices, hc, hopen⟩ := hs
  refine ⟨fun e he => ?_, fun plan payload hok => ?_⟩
  · have htail : s.slices.tail = s.slices := by rw [hslices]; rfl
    rw [exec_programLine_of_rejected f he hopen, htail]
  · have hfirst : lineStart .direct b f s = .go (.send (baudFrame payload) (.firstWrite f .direct)) s := by
      simp [lineStart, hok]
    refine ⟨fun rest ha => ?_, fun bytes a rest ha => ?_⟩
    · rw [exec_programLine, execProgramLine]
      exact invoke_one_transfer rfl rfl ⟨hslices, hc, hopen⟩ hfirst rfl ha fun _ => rfl
    · rw [exec_programLine, execProgramLine,
        invoke_transfer rfl (dutyKept_other rfl hopen) hslices hfirst hc ha, outcome_toDevice rfl]
      refine (drive_transfer 58 _ _ _ (s.transferred _ (a :: rest)) a rest hc rfl).trans ?_
      rw [afterTransfer_secondWrite_direct rfl, drive_ret]
      simp [State.respond, State.emit, State.transferred, op, baudFrame, formatFrame, writeRegFrame, zext16]

/-! ## Modem lines -/

theorem legal_lines {op : Instr}
    (hop : (∃ a b, op = .setLines a b) ∨ (∃ on, op = .raiseLines on) ∨ ∃ on, op = .setBreak on)
    {s : State} (h : s.phase = .active ∨ s.phase = .reconfiguring) : legal op s.phase = true := by
  rcases hop with ⟨a, b, rfl⟩ | ⟨on, rfl⟩ | ⟨on, rfl⟩ <;> rcases h with h | h <;> rw [h] <;> rfl

/-- Settles O23. -/
theorem setLinesCompletes : Obligations.SetLinesCompletes := by
  intro set clear s p a rest hs hphase hp ha mask c
  rw [exec_setLines]
  exact invoke_one_transfer (s' := s.setPort (p.setControl c)) (legal_lines (.inl ⟨_, _, rfl⟩) hphase) rfl hs
    (withPort_some hp _) rfl ha (afterTransfer_ret rfl a)

/-- With nothing to clear, SET_LINES is an OR. -/
theorem combineLines_zero (c : Config.Params) (control m : Byte) :
    combineLines c control m 0 = control ||| (m &&& ctrlMask c) := by
  have hones : not8 (0 &&& ctrlMask c) = BitVec.allOnes 8 := by
    rw [show (0 : Byte) &&& ctrlMask c = 0 from BitVec.zero_and]
    rfl
  rw [combineLines, hones, BitVec.and_allOnes]

/-- RAISE_LINES computes the byte SET_LINES would (R152). -/
theorem raisedLines_eq_combineLines (c : Config.Params) (control : Byte) (on : Bool) :
    raisedLines c control on =
      combineLines c control (if on then ctrlMask c else 0) (if on then 0 else ctrlMask c) := by
  cases on with
  | true =>
    refine ((combineLines_zero c control (ctrlMask c)).trans ?_).symm
    rw [BitVec.and_self]
    rfl
  | false => simp [raisedLines, combineLines]

/-- A field with no bit outside the mask is the mask or 0 afterwards. -/
theorem raisedLines_eq {c : Config.Params} {control : Byte} (h : control &&& not8 (ctrlMask c) = 0) (on : Bool) :
    raisedLines c control on = if on then ctrlMask c else 0 := by
  cases on with
  | false => exact h
  | true =>
    rw [and_not8_eq_zero_iff] at h
    ext i hi
    have hbit := h i hi
    simp only [raisedLines, if_true, BitVec.getElem_or]
    cases hc : control[i] with
    | false => rw [Bool.false_or]
    | true => rw [hbit hc, Bool.true_or]

/-- Settles O25. -/
theorem raiseLinesCompletes : Obligations.RaiseLinesCompletes := by
  intro on s p a rest hs hphase hp ha mask c
  refine ⟨?_, raisedLines_eq_combineLines s.cfg p.ls.modemControl on, fun h => raisedLines_eq (c := s.cfg) h on⟩
  rw [exec_raiseLines]
  exact invoke_one_transfer (s' := s.setPort (p.setControl c)) (legal_lines (.inr (.inl ⟨_, rfl⟩)) hphase) rfl hs
    (withPort_some hp _) rfl ha (afterTransfer_ret rfl a)

/-- Bits already set stay, and nothing is cleared (R155). -/
theorem combineLines_of_set {c : Config.Params} {control m : Byte} (h : (m &&& ctrlMask c) &&& ~~~control = 0) :
    combineLines c control m 0 = control := by
  rw [show ~~~control = not8 control from rfl, and_not8_eq_zero_iff] at h
  rw [combineLines_zero]
  ext i hi
  have hbit := h i hi
  simp only [BitVec.getElem_or] at hbit ⊢
  cases hm : (m &&& ctrlMask c)[i] with
  | false => rw [Bool.or_false]
  | true => rw [hbit hm, Bool.or_true]

/-- A transfer that ends its operation goes on to the result, or waits; either way the port stays and what was put on
the ports stays. -/
theorem drive_await_ret (n : Nat) (op : Instr) (f : Frame) (s : State) :
    ∃ t more, drive n op (.go (.await f .ret) s) = .next t ∧ t.port = s.port ∧ t.out = s.out ++ more := by
  cases n with
  | zero => exact ⟨_, [], rfl, rfl, by simp⟩
  | succ n =>
    cases ha : s.answers with
    | nil => exact ⟨s.park op (.await f .ret), [], by simp [advance, ha], rfl, by simp⟩
    | cons a rest =>
      have hstep : drive (n + 1) op (.go (.await f .ret) s) =
          drive n op (.go (.answered f (f.reply a) .ret) { s with answers := rest }) := by
        simp [advance, ha]
      rw [hstep]
      cases n with
      | zero => exact ⟨_, [], rfl, rfl, by simp⟩
      | succ n =>
        rw [drive_succ, advance]
        cases f.completion (f.reply a) with
        | ok bytes => exact ⟨_, _, drive_ret _ _ _ _, rfl, rfl⟩
        | error e => exact ⟨_, _, drive_ret _ _ _ _, rfl, rfl⟩

/-- A transfer that ends its operation, from its start: the frame is sent in this step, or stands next to be sent. -/
theorem drive_send_ret (n : Nat) (op : Instr) (f : Frame) (s : State) :
    ∃ t, drive n op (.go (.send f .ret) s) = .next t ∧ t.port = s.port ∧
      ((t.out = s.out ∧ t.pool = s.pool ++ [⟨op, .send f .ret⟩]) ∨ ∃ more, t.out = s.out ++ .sent f :: more) := by
  cases n with
  | zero => exact ⟨_, rfl, rfl, .inl ⟨rfl, rfl⟩⟩
  | succ n =>
    cases hc : s.channelBusy with
    | true => exact ⟨s.park op (.send f .ret), by simp [advance, hc], rfl, .inl ⟨rfl, rfl⟩⟩
    | false =>
      obtain ⟨t, more, ht, hport, hout⟩ := drive_await_ret n op f (s.emit [.sent f])
      exact ⟨t, by simpa [advance, hc] using ht, hport, .inr ⟨more, by simpa using hout⟩⟩

/-- An admitted operation runs for its turn, whatever the schedule. -/
theorem invoke_admitted {op : Instr} {s : State} {first : State → Seg} (hlegal : legal op s.phase = true)
    (hduty : dutyKept op s = true) : invoke op s first = drive s.slice op (first s.takeSlice) := by
  simp [invoke, hlegal, hduty]

theorem setControl_self (p : Port) : p.setControl p.ls.modemControl = p := rfl

/-- Settles O24: the byte is the one in the field; the frame waits to be sent, or has been. -/
theorem setLinesIdempotent : Obligations.SetLinesIdempotent := by
  intro m s p hopen hphase hp hset f
  have hbyte : combineLines s.takeSlice.cfg p.ls.modemControl m 0 = p.ls.modemControl := combineLines_of_set hset
  rw [exec_setLines, invoke_admitted (legal_lines (.inl ⟨_, _, rfl⟩) hphase) (dutyKept_other rfl hopen),
    withPort_some (s := s.takeSlice) hp, hbyte, setControl_self]
  obtain ⟨t, ht, hport, hsent⟩ := drive_send_ret s.slice (.setLines m 0) f (s.takeSlice.setPort p)
  exact ⟨t, ht, hport, hsent⟩

theorem anyBit_eq_decide (b mask : Byte) : anyBit b mask = decide (b &&& mask ≠ 0) := by
  simp [anyBit, bne, Bool.beq_eq_decide_eq]

/-- The four status bits of the record are bits 0 to 3 (R24). -/
theorem lineRecord_eq (c : Config.Params) (control status : Byte) :
    lineRecord c control status =
      { rts := decide (control &&& c.rtsBit ≠ 0), dtr := decide (control &&& c.dtrBit ≠ 0)
        cts := status.getLsbD 0, dsr := status.getLsbD 1, ri := status.getLsbD 2, dcd := status.getLsbD 3 } := by
  rw [← anyBit_twoPow status 0, ← anyBit_twoPow status 1, ← anyBit_twoPow status 2, ← anyBit_twoPow status 3,
    ← anyBit_eq_decide, ← anyBit_eq_decide]
  rfl

theorem legal_reads {op : Instr} (hop : op = .getLines ∨ op = .carrierPresent) {p : Phase} (h : p ≠ .released) :
    legal op p = true := by
  rcases hop with rfl | rfl <;> simpa [legal] using h

/-- Settles O26. -/
theorem getLinesCompletes : Obligations.GetLinesCompletes := by
  intro s p hopen hphase hp
  rw [exec_getLines, invoke_returns (legal_reads (.inl rfl) hphase) (dutyKept_other rfl hopen)
    (withPort_some (s := s.takeSlice) hp _), lineRecord_eq]
  rfl

/-- Settles O27. -/
theorem carrierPresentCompletes : Obligations.CarrierPresentCompletes := by
  intro s p hopen hphase hp
  have hdcd : carrierBit p.ls.modemStatus = p.ls.modemStatus.getLsbD 3 := anyBit_twoPow p.ls.modemStatus 3
  rw [exec_carrierPresent, invoke_returns (legal_reads (.inr rfl) hphase) (dutyKept_other rfl hopen)
    (withPort_some (s := s.takeSlice) hp _), hdcd]

/-! ## STATUS_QUERY -/

theorem statusFrame_length {c : Config.Params} (hc : c.Ok) : (statusFrame c).length.toNat = c.statusQueryLen := by
  obtain ⟨-, -, -, -, -, -, -, -, -, -, hlen⟩ := hc
  exact readRegFrame_length hlen _

/-- A reply of the length asked for. -/
theorem statusFrame_outcome_full {c : Config.Params} (hc : c.Ok) {bytes : List Byte}
    (h : bytes.length = c.statusQueryLen) : (statusFrame c).outcome (.ok bytes) = .ok bytes := by
  rw [outcome_toHost rfl, statusFrame_length hc, if_pos h.ge, List.take_of_length_le h.le]

/-- A short reply (R103). -/
theorem statusFrame_outcome_short {c : Config.Params} (hc : c.Ok) {bytes : List Byte}
    (h : bytes.length < c.statusQueryLen) : (statusFrame c).outcome (.ok bytes) = .error .deviceProtocolError := by
  rw [outcome_toHost rfl, statusFrame_length hc, if_neg (by omega)]

theorem invokeOnPort_some {op : Instr} {s : State} {p : Port} (hp : s.port = some p) (first : Port → State → Seg) :
    invokeOnPort op s first = invoke op s (first p) := by
  simp [invokeOnPort, hp]

/-- STATUS_QUERY, run undisturbed, is one transfer. -/
theorem exec_statusQuery_undisturbed {s : State} {p : Port} {a : Answer} {rest : List Answer} (hs : s.Undisturbed)
    (hp : s.port = some p) (ha : s.answers = a :: rest) :
    exec .statusQuery s = drive 61 .statusQuery (afterTransfer (.query .direct) ((statusFrame s.cfg).outcome a)
      (s.transferred (statusFrame s.cfg) rest)) := by
  obtain ⟨hslices, hc, hopen⟩ := hs
  rw [exec_statusQuery, invokeOnPort_some hp]
  exact invoke_transfer rfl (dutyKept_other rfl hopen) hslices rfl hc ha

/-- STATUS_QUERY has its reply, and stores the decoded status. -/
theorem queryDone_direct {s : State} {p : Port} {bytes : List Byte} {b : Byte} (hp : s.port = some p)
    (hb : bytes[s.cfg.statusQueryByte]? = some b) :
    queryDone .direct bytes s = .ret (.ok .unit) (s.setPort (p.setStatus (decodeStatus b))) := by
  simp [queryDone, hb, withPort_some hp]

/-- Settles O28: the read by its three outcomes. -/
theorem statusQueryCompletes : Obligations.StatusQueryCompletes := by
  intro s p rest hs hcfg hp f
  refine ⟨fun bytes b ha hlen hb => ?_, fun bytes ha hlen => ?_, fun ha => ?_⟩
  · rw [exec_statusQuery_undisturbed hs hp ha, statusFrame_outcome_full hcfg hlen, afterTransfer, afterSuccess,
      queryDone_direct (s := s.transferred _ _) hp hb, drive_ret, transferred_setPort_respond]
    rfl
  · rw [exec_statusQuery_undisturbed hs hp ha, statusFrame_outcome_short hcfg hlen, afterTransfer, afterFailure,
      queryFailed, raise_eq, drive_ret, transferred_respond]
    rfl
  · rw [exec_statusQuery_undisturbed hs hp ha, outcome_fail, afterTransfer, afterFailure, queryFailed, raise_eq,
      drive_ret, transferred_respond]
    rfl

/-! ## Break -/

/-- The first transfer of SET_BREAK, run undisturbed. -/
theorem exec_setBreak_undisturbed {active : Bool} {s : State} {a : Answer} {rest : List Answer} (hs : s.Undisturbed)
    (hphase : s.phase = .active ∨ s.phase = .reconfiguring) (ha : s.answers = a :: rest) :
    exec (.setBreak active) s = drive 61 (.setBreak active) (afterTransfer (.breakRead active)
      ((breakReadFrame s.cfg).outcome a) (s.transferred (breakReadFrame s.cfg) rest)) := by
  obtain ⟨hslices, hc, hopen⟩ := hs
  rw [exec_setBreak]
  exact invoke_transfer (legal_lines (.inr (.inr ⟨_, rfl⟩)) hphase) (dutyKept_other rfl hopen) hslices rfl hc ha

theorem breakReadFrame_outcome_short (c : Config.Params) {bytes : List Byte} (h : bytes.length < 2) :
    (breakReadFrame c).outcome (.ok bytes) = .error .deviceProtocolError := by
  have hlen : (breakReadFrame c).length.toNat = 2 := rfl
  rw [outcome_toHost rfl, hlen, if_neg (by omega)]

/-- Settles O29: the read by its three outcomes, and the write after it. -/
theorem setBreakCompletes : Obligations.SetBreakCompletes := by
  intro active s rest hs hphase sel read op
  refine ⟨fun brk lcr a ha => ?_, fun bytes ha hlen => ?_, fun ha => ?_⟩
  · have hread : (breakReadFrame s.cfg).outcome (.ok [brk, lcr]) = .ok [brk, lcr] := rfl
    rw [exec_setBreak_undisturbed hs hphase ha, hread]
    refine (drive_transfer 58 _ _ _ (s.transferred _ (a :: rest)) a rest hs.2.1 rfl).trans ?_
    rw [afterTransfer_ret rfl, drive_ret]
    simp only [State.respond, State.emit, State.transferred, List.append_assoc, List.cons_append, List.nil_append]
    rfl
  · rw [exec_setBreak_undisturbed hs hphase ha, breakReadFrame_outcome_short s.cfg hlen, afterTransfer, afterFailure,
      raise_eq, drive_ret, transferred_respond]
    rfl
  · rw [exec_setBreak_undisturbed hs hphase ha, outcome_fail, afterTransfer, afterFailure, raise_eq, drive_ret,
      transferred_respond]
    rfl

theorem and_not_or_self (a m : Byte) : a &&& ~~~m ||| m = a ||| m := by
  ext i hi
  simp only [BitVec.getElem_or, BitVec.getElem_and, BitVec.getElem_not]
  cases a[i] <;> cases m[i] <;> rfl

theorem or_of_and_eq {a m : Byte} (h : a &&& m = m) : a ||| m = a := by
  rw [← h]
  ext i hi
  simp only [BitVec.getElem_or, BitVec.getElem_and]
  cases a[i] <;> rfl

/-- Settles O30: two runs of O29; the second sets again the bits that the first has cleared. -/
theorem breakRoundTrip : Obligations.BreakRoundTrip := by
  intro s brk lcr x y rest hs hphase sel read brk' lcr' ha
  have hfirst := (setBreakCompletes true s (.ok [brk', lcr'] :: .ok y :: rest) hs hphase).1 brk lcr (.ok x) ha
  refine ⟨_, hfirst, ?_, fun hbrk hlcr => ?_⟩
  · have hsecond := (setBreakCompletes false
      { s with
        answers := .ok [brk', lcr'] :: .ok y :: rest
        out := s.out ++ [.sent read, .sent ⟨.toDevice, 0x9A, pack16 lcr' brk', sel, 0⟩,
          .result (some (.setBreak true)) (.ok .unit)] } rest hs hphase).1 brk' lcr' (.ok y) rfl
    have hbrk : brk' ||| s.cfg.breakBit = brk ||| s.cfg.breakBit := and_not_or_self _ _
    have hlcr : lcr' ||| s.cfg.ffTxEn = lcr ||| s.cfg.ffTxEn := and_not_or_self _ _
    simp only [Bool.false_eq_true, if_false, hbrk, hlcr, List.append_assoc, List.cons_append, List.nil_append]
      at hsecond
    exact hsecond
  · rw [or_of_and_eq hbrk, or_of_and_eq hlcr]

end Sys2Proof.Machine
end

section
/-!
Transfers under any schedule (20_memory.md R64), and two interleavings that the spec says a model must admit
(70_reset_and_hazards.md R268, R269).
-/

namespace Sys2Proof.Machine

/-! ## An invocation that goes on -/

/-- The state in which the invocation at place `j` moves: its turn is taken and it is out of the list. -/
def State.turnOf (s : State) (j : Nat) (more : List Input) : State :=
  { s with inbox := more, slices := s.slices.tail, pool := s.pool.eraseIdx j }

theorem step_proceed {s : State} {j : Nat} {more : List Input} {op : Instr} {pos : Pos}
    (hin : s.inbox = .proceed j :: more) (hj : s.pool[j]? = some ⟨op, pos⟩) :
    step s = drive s.slice op (advance pos (s.turnOf j more)) := by
  simp only [step, State.fetch, hin, proceedTask, hj]
  rfl

/-- An invocation whose frame is not on the channel does not make it busy. -/
theorem channelBusy_turnOf {s : State} {j : Nat} {op : Instr} {pos : Pos} (hj : s.pool[j]? = some ⟨op, pos⟩)
    (hpos : pos.onChannel = false) (more : List Input) : (s.turnOf j more).channelBusy = s.channelBusy := by
  obtain ⟨hlt, ht⟩ := List.getElem?_eq_some_iff.1 hj
  have hperm : (⟨op, pos⟩ :: s.pool.eraseIdx j).Perm s.pool := ht ▸ List.getElem_cons_eraseIdx_perm hlt
  rw [channelBusy_eq, channelBusy_eq, ← hperm.any_eq, List.any_cons, hpos, Bool.false_or]
  rfl

theorem slice_of_head {s : State} {n : Nat} (h : s.slices.head? = some n) : s.slice = n := by
  simp [State.slice, List.headD_eq_head?_getD, h]

/-- A transfer without an answer waits (log entries 6 and 20). -/
theorem drive_await_none {s : State} (h : s.answers = []) (n : Nat) (op : Instr) (f : Frame) (k : After) :
    drive n op (.go (.await f k) s) = .next (s.park op (.await f k)) := by
  cases n <;> simp [advance, h]

theorem advance_send_busy {s : State} (h : s.channelBusy = true) (f : Frame) (k : After) :
    advance (.send f k) s = .blocked (.send f k) s := by
  simp [advance, h]

theorem advance_send_free {s : State} (h : s.channelBusy = false) (f : Frame) (k : After) :
    advance (.send f k) s = .go (.await f k) (s.emit [.sent f]) := by
  simp [advance, h]

theorem advance_await_none {s : State} (h : s.answers = []) (f : Frame) (k : After) :
    advance (.await f k) s = .blocked (.await f k) s := by
  simp [advance, h]

theorem advance_await_some {s : State} {a : Answer} {rest : List Answer} (h : s.answers = a :: rest) (f : Frame)
    (k : After) : advance (.await f k) s = .go (.answered f (f.reply a) k) { s with answers := rest } := by
  simp [advance, h]

/-- Settles O12: each clause is one segment at the place where the invocation stands. -/
theorem transferWaits : Obligations.TransferWaits := by
  refine ⟨fun s op f k j more hin => ⟨fun hj hbusy => ?_, fun hj hfree hstop => ?_, fun hj hnone => ?_,
    fun a rest hj ha hzero => ?_⟩, fun _ _ _ => reply_length, fun ctl s hs => ⟨fun hbusy hopen => ?_,
    fun hfree hopen hnone => ?_, fun a rest more hin hpool ha => ?_⟩⟩
  · rw [step_proceed hin hj, advance_send_busy ((channelBusy_turnOf hj rfl more).trans hbusy), drive_blocked]
    rfl
  · rw [step_proceed hin hj, advance_send_free ((channelBusy_turnOf hj rfl more).trans hfree)]
    rcases hstop with hnone | hzero
    · rw [drive_await_none (s := (s.turnOf j more).emit _) hnone]
      rfl
    · rw [slice_of_head hzero]
      rfl
  · rw [step_proceed hin hj, advance_await_none (s := s.turnOf j more) hnone, drive_blocked]
    rfl
  · rw [step_proceed hin hj, advance_await_some (s := s.turnOf j more) ha, slice_of_head hzero]
    rfl
  · rw [exec_modemCtrl, invoke_run rfl (dutyKept_other rfl hopen) hs, drive_succ, advance_send_busy hbusy, drive_blocked]
    rfl
  · rw [exec_modemCtrl, invoke_run rfl (dutyKept_other rfl hopen) hs, drive_succ, advance_send_free hfree,
      drive_await_none (s := s.emit _) hnone]
    rfl
  · have hj : s.pool[0]? = some ⟨.modemCtrl ctl, .await (modemCtrlFrame ctl) .ret⟩ := by simp [hpool]
    rw [step_proceed hin hj, advance_await_some (s := s.turnOf 0 more) ha, slice_nil hs, drive_succ]
    have hret := afterTransfer_ret (f := modemCtrlFrame ctl) rfl a
    rw [Frame.outcome] at hret
    rw [advance, hret, drive_ret]
    simp [State.turnOf, hpool, hs, State.respond, State.emit]

/-! ## Runs of the whole machine -/

theorem run_step {s t : State} (h : step s = .next t) (n : Nat) :
    Host.Core.run Sys2Proof.core (n + 1) s = Host.Core.run Sys2Proof.core n t := by
  have hcore : Sys2Proof.core.step s = .next t := h
  simp only [Host.Core.run, hcore]

/-- SET_LINES without a bit to clear, whose turn is over after its first segment: the field is written and the push
stands next. -/
theorem step_setLines_parked {m : Byte} {s : State} {p : Port} {more : List Input} {rest : List Nat}
    (hin : s.inbox = .call (encode (.setLines m 0)) :: more) (hs : s.slices = 0 :: rest) (hopen : s.OpenToHost)
    (hphase : s.phase = .active ∨ s.phase = .reconfiguring) (hp : s.port = some p) :
    step s = .next { s with
      inbox := more, slices := rest
      port := some (p.setControl (p.ls.modemControl ||| (m &&& ctrlMask s.cfg)))
      pool := s.pool ++
        [⟨.setLines m 0, .send (modemCtrlFrame (p.ls.modemControl ||| (m &&& ctrlMask s.cfg))) .ret⟩] } := by
  have hdecode : decode (encode (.setLines m 0)) = .ok (.setLines m 0) := decodeEncodeAgree _ rfl
  have hslice : State.slice { s with inbox := more } = 0 := slice_of_head (by simp [hs])
  rw [step_call_ok hin hdecode, exec_setLines,
    invoke_admitted (s := { s with inbox := more }) (legal_lines (.inl ⟨_, _, rfl⟩) hphase) (dutyKept_other rfl hopen),
    withPort_some (s := State.takeSlice { s with inbox := more }) hp, hslice, drive_zero, combineLines_zero]
  simp [State.park, State.setPort, State.takeSlice, hs]

/-- A push that goes on, undisturbed, to its result. -/
theorem step_proceed_push {s : State} {j : Nat} {more : List Input} {op : Instr} {f : Frame} {a : Answer}
    {rest : List Answer} (hin : s.inbox = .proceed j :: more) (hj : s.pool[j]? = some ⟨op, .send f .ret⟩)
    (hs : s.slices = []) (hc : s.channelBusy = false) (ha : s.answers = a :: rest) (hf : f.dir = .toDevice) :
    step s = .next { s with
      inbox := more, pool := s.pool.eraseIdx j, answers := rest
      out := s.out ++ [.sent f, .result (some op) a.outResult] } := by
  rw [step_proceed hin hj, slice_nil hs, ← drive_succ]
  refine (drive_transfer 62 op f .ret (s.turnOf j more) a rest
    ((channelBusy_turnOf hj rfl more).trans hc) ha).trans ?_
  rw [afterTransfer_ret hf, drive_ret]
  simp [State.turnOf, State.respond, State.emit, hs]

/-- Settles O59: the blocks run in the order of the calls, the pushes in the order of the turns. -/
theorem pushesCanBeReordered : Obligations.PushesCanBeReordered := by
  intro a b s p x y hphase hp hpool hslices hanswers hinbox mask first both
  have hfirst := step_setLines_parked hinbox hslices (by simp [State.OpenToHost, hpool]) (.inl hphase) hp
  have hsecond := step_setLines_parked (m := b) (more := [.proceed 1, .proceed 0]) (rest := [])
    (p := p.setControl first)
    (s := { s with
      inbox := [.call (encode (.setLines b 0)), .proceed 1, .proceed 0], slices := [0], port := some (p.setControl first)
      pool := s.pool ++ [⟨.setLines a 0, .send (modemCtrlFrame first) .ret⟩] })
    rfl rfl (by simp [State.OpenToHost, hpool, needsQuiet]) (.inl hphase) rfl
  have hpushB := step_proceed_push (op := .setLines b 0) (f := modemCtrlFrame both) (a := .ok x) (rest := [.ok y])
    (j := 1) (more := [.proceed 0])
    (s := { s with
      inbox := [.proceed 1, .proceed 0], slices := [], port := some (p.setControl both)
      pool := s.pool ++ [⟨.setLines a 0, .send (modemCtrlFrame first) .ret⟩] ++
        [⟨.setLines b 0, .send (modemCtrlFrame both) .ret⟩] })
    rfl (by simp [hpool]) rfl (by simp [hpool, channelBusy_eq, Pos.onChannel]) hanswers rfl
  have hpushA := step_proceed_push (op := .setLines a 0) (f := modemCtrlFrame first) (a := .ok y) (rest := [])
    (j := 0) (more := [])
    (s := { s with
      inbox := [.proceed 0], slices := [], port := some (p.setControl both), answers := [.ok y]
      pool := [⟨.setLines a 0, .send (modemCtrlFrame first) .ret⟩]
      out := s.out ++ [.sent (modemCtrlFrame both), .result (some (.setLines b 0)) (.ok .unit)] })
    rfl rfl rfl (by simp [channelBusy_eq, Pos.onChannel]) rfl rfl
  simp only [hpool, List.nil_append, List.cons_append, List.eraseIdx] at hfirst hsecond hpushB
  refine ⟨_, (run_step hfirst 3).trans ((run_step hsecond 2).trans ((run_step hpushB 1).trans (run_step hpushA 0))),
    rfl, ?_⟩
  rw [List.append_assoc]
  rfl

/-- A status query with its reply stores the decoded status and returns; that of OPEN or of RESUME ends in `Active`. -/
theorem drive_queryDone {k : QueryCaller} {bytes : List Byte} {s : State} {p : Port} {b : Byte}
    (hp : s.port = some p) (hb : bytes[s.cfg.statusQueryByte]? = some b) (n : Nat) (op : Instr) :
    drive (n + 1) op (queryDone k bytes s) = .next (State.respond
      { s with phase := if k = .direct then s.phase else .active, port := some (p.setStatus (decodeStatus b)) }
      (some op) (.ok .unit)) := by
  cases k <;> simp only [queryDone, hb, withPort_some hp, drive_ret, drive_succ, advance] <;> rfl

theorem completion_full {f : Frame} (h : f.dir = .toHost) {bytes : List Byte} (hlen : bytes.length = f.length.toNat) :
    f.completion (.ok bytes) = .ok bytes := by
  rw [completion_toHost h, if_pos hlen]

/-- The carrier event of a delivery that holds the status byte (R170). -/
theorem Port.notifiedEvents_record (p : Port) (b0 flags inv b3 : Byte) (more : List Byte) :
    p.notifiedEvents (.record (b0 :: flags :: inv :: b3 :: more)) =
      if (statusDelta (decodeStatus inv) p.ls.modemStatus).getLsbD 3 then [.carrierChange (!inv.getLsbD 3)]
      else [] := by
  rw [p.notifiedEvents_status (st := decodeStatus inv) rfl, carrierEvents_eq, decodeStatus_getLsbD inv (by decide)]

/-- The port once such a delivery and then an older reply have been stored: the counts are the delivery's, the status
is the reply's. -/
theorem Port.notified_setStatus (p : Port) (b0 flags inv b3 st : Byte) :
    (p.notified (.record [b0, flags, inv, b3])).setStatus st = { p.setStatus st with
      cnt := {
        cts := p.cnt.cts + bitCount (statusDelta (decodeStatus inv) p.ls.modemStatus) 0x01
        dsr := p.cnt.dsr + bitCount (statusDelta (decodeStatus inv) p.ls.modemStatus) 0x02
        ri := p.cnt.ri + bitCount (statusDelta (decodeStatus inv) p.ls.modemStatus) 0x04
        dcd := p.cnt.dcd + bitCount (statusDelta (decodeStatus inv) p.ls.modemStatus) 0x08 } } := by
  simp only [← bump_eq]
  rfl

/-- A status query that stands at its reply goes on, undisturbed, to its result. -/
theorem step_proceed_query {s : State} {p : Port} {op : Instr} {f : Frame} {bytes : List Byte} {k : QueryCaller}
    {b : Byte} {more : List Input} (hin : s.inbox = .proceed 0 :: more)
    (hpool : s.pool = [⟨op, .answered f (.ok bytes) (.query k)⟩]) (hs : s.slices = []) (hp : s.port = some p)
    (hdir : f.dir = .toHost) (hlen : bytes.length = f.length.toNat) (hb : bytes[s.cfg.statusQueryByte]? = some b) :
    step s = .next { s with
      phase := if k = .direct then s.phase else .active
      port := some (p.setStatus (decodeStatus b)), pool := [], inbox := more
      out := s.out ++ [.result (some op) (.ok .unit)] } := by
  rw [step_proceed hin (by rw [hpool]; rfl), slice_nil hs, advance, completion_full hdir hlen, afterTransfer,
    afterSuccess]
  refine (drive_queryDone (s := s.turnOf 0 more) hp hb 63 op).trans ?_
  simp [State.respond, State.emit, State.turnOf, hpool, hs]

/-- Settles O60: one step handles the notification, the next stores the older reply over it. -/
theorem seedCanOverwriteNotification : Obligations.SeedCanOverwriteNotification := by
  intro b0 flags inv b3 b bytes s p gs f op k hp harm hstop hmon hslices hgrants hdir hlen hb hpool hinbox delta
  have hnotify := (step_call_ok hinbox (i := .notify (.record [b0, flags, inv, b3])) rfl).trans
    (exec_notify_granted (s := { s with inbox := [.proceed 0] }) _ hslices hmon hp harm hstop hgrants)
  have hreply := step_proceed_query (more := [])
    (s := { s with
      inbox := [.proceed 0], port := some (p.notified (.record [b0, flags, inv, b3])), grants := gs
      out := s.out ++ p.notifiedEvents (.record [b0, flags, inv, b3]) ++ [.submit] })
    rfl hpool hslices rfl hdir hlen hb
  refine (run_step hnotify 1).trans ((run_step hreply 0).trans ?_)
  rw [p.notified_setStatus, p.notifiedEvents_record, List.append_assoc _ [PortEvent.submit]]
  rfl

end Sys2Proof.Machine
end

section
/-!
Every invocation that the host's duty admits ends in an undisturbed run (20_memory.md R64): each segment brings it nearer
to its end, and takes no more answers than are left to take.
-/

namespace Sys2Proof.Machine

/-! ## How far an invocation is from its end -/

/-- At most so many transfers follow the one after which the code goes on here. -/
def After.transfersLeft : After → Nat
  | .version _ => 5
  | .serialInit _ => 4
  | .firstWrite _ (.configure _) => 3
  | .firstWrite _ .direct => 1
  | .firstWrite _ (.reconfigure _ _) => 1
  | .secondWrite (.configure _) => 2
  | .secondWrite .direct => 0
  | .secondWrite (.reconfigure _ _) => 0
  | .push _ => 1
  | .breakRead _ => 1
  | .query _ => 0
  | .ret => 0
  | .retBytes => 0

/-- At most so many answers of the channel are still to be taken. -/
def Pos.answersLeft : Pos → Nat
  | .send _ k => k.transfersLeft + 1
  | .await _ k => k.transfersLeft + 1
  | .answered _ _ k => k.transfersLeft
  | .reconfigure _ _ => 2
  | .swapBaud _ _ => 2
  | .reportLost => 1
  | .rollback _ _ => 0
  | .finish _ _ => 0
  | .releaseWait => 0

/-- At most so many segments are still to be taken where none must wait. -/
def Pos.segmentsLeft : Pos → Nat
  | .send _ k => 4 * k.transfersLeft + 4
  | .await _ k => 4 * k.transfersLeft + 3
  | .answered _ _ k => 4 * k.transfersLeft + 2
  | .reconfigure _ _ => 10
  | .swapBaud _ _ => 9
  | .reportLost => 5
  | .rollback _ _ => 2
  | .finish _ _ => 1
  | .releaseWait => 1

theorem After.transfersLeft_le (k : After) : k.transfersLeft ≤ 5 := by
  fun_cases After.transfersLeft k <;> decide

theorem Pos.answersLeft_le (pos : Pos) : pos.answersLeft ≤ 6 := by
  have hk (k : After) : k.transfersLeft ≤ 5 := k.transfersLeft_le
  cases pos <;> simp only [answersLeft] <;> grind

theorem Pos.segmentsLeft_le (pos : Pos) : pos.segmentsLeft ≤ 64 := by
  have hk (k : After) : k.transfersLeft ≤ 5 := k.transfersLeft_le
  cases pos <;> simp only [segmentsLeft] <;> grind

theorem Pos.segmentsLeft_pos (pos : Pos) : 0 < pos.segmentsLeft := by
  cases pos <;> simp only [segmentsLeft] <;> omega

/-! ## Each segment brings it nearer -/

/-- The segment does not wait; the invocation goes on nearer to its end, or returns, beside the same invocations and the
same handler. -/
def Seg.Nearer (s : State) (pos : Pos) : Seg → Prop
  | .go pos' t => pos'.segmentsLeft < pos.segmentsLeft ∧ pos'.answersLeft ≤ t.answers.length ∧
    t.pool = s.pool ∧ t.monitor = s.monitor
  | .ret _ t => t.pool = s.pool ∧ t.monitor = s.monitor
  | .blocked _ _ => False
  | .fault _ => True

/-- After a transfer the next one is sent. -/
theorem nearer_send {s t : State} {f g : Frame} {a : Answer} {k k' : After} (hk : k'.transfersLeft < k.transfersLeft)
    (ha : k.transfersLeft ≤ t.answers.length) (hpool : t.pool = s.pool) (hm : t.monitor = s.monitor) :
    (Seg.go (.send g k') t).Nearer s (.answered f a k) :=
  ⟨by simp only [Pos.segmentsLeft]; omega, by simp only [Pos.answersLeft]; omega, hpool, hm⟩

/-- What is left is to return. -/
theorem nearer_finish {s t : State} {pos : Pos} {q : Phase} {r : Result} (hpos : 2 ≤ pos.segmentsLeft)
    (hpool : t.pool = s.pool) (hm : t.monitor = s.monitor) : (Seg.go (.finish q r) t).Nearer s pos :=
  ⟨hpos, Nat.zero_le _, hpool, hm⟩

theorem Pos.two_le_answered (f : Frame) (a : Answer) (k : After) : 2 ≤ (Pos.answered f a k).segmentsLeft :=
  Nat.le_add_left _ _

theorem transfersLeft_secondWrite_lt (g : Byte) (c : LineCaller) :
    (After.secondWrite c).transfersLeft < (After.firstWrite g c).transfersLeft := by
  cases c with
  | direct => exact Nat.lt_succ_self 0
  | reconfigure old f => exact Nat.lt_succ_self 0
  | configure b => exact Nat.lt_succ_self 2

theorem Takes.nearer {s : State} {pos : Pos} {seg : Seg} (ht : Takes s pos seg) (hfree : s.channelBusy = false)
    (hm : s.monitor = none) (ha : pos.answersLeft ≤ s.answers.length) : seg.Nearer s pos := by
  cases ht with
  | channelBusy hbusy => exact absurd hbusy (by simp [hfree])
  | noAnswer hnone => simp [Pos.answersLeft, hnone] at ha
  | handlerAwaited hwait => exact hwait hm
  | frameSent => exact ⟨Nat.lt_succ_self _, ha, rfl, rfl⟩
  | answerTaken hnext => exact ⟨Nat.lt_succ_self _, by simpa [Pos.answersLeft, hnext] using ha, rfl, rfl⟩
  | returned => exact ⟨rfl, rfl⟩
  | bringUpAborted => exact ⟨rfl, rfl⟩
  | firstWriteUndone => exact nearer_finish (Pos.two_le_answered _ _ _) rfl rfl
  | secondWriteUndone => exact nearer_finish (Pos.two_le_answered _ _ _) rfl rfl
  | seedWithdrawn => exact nearer_finish (Pos.two_le_answered _ _ _) rfl rfl
  | probed => exact nearer_send (Nat.lt_succ_self 4) ha rfl rfl
  | rateSent => exact nearer_send (Nat.lt_succ_self 3) ha rfl rfl
  | rateRejected => exact nearer_finish (Pos.two_le_answered _ _ _) rfl rfl
  | formatSent => exact nearer_send (transfersLeft_secondWrite_lt _ _) ha rfl rfl
  | formatStored => exact nearer_finish (Pos.two_le_answered _ _ _) rfl rfl
  | linesPushed => exact nearer_send (Nat.lt_succ_self 1) ha rfl rfl
  | seedAsked => exact nearer_send (Nat.lt_succ_self 0) ha rfl rfl
  | openRefused => exact nearer_finish (Pos.two_le_answered _ _ _) rfl rfl
  | resumeRefused => exact ⟨Nat.lt_succ_self 5, ha, rfl, rfl⟩
  | resumeKept => exact ⟨rfl, rfl⟩
  | statusStored => exact ⟨rfl, rfl⟩
  | seedStored => exact nearer_finish (Pos.two_le_answered _ _ _) rfl rfl
  | breakWritten => exact nearer_send (Nat.lt_succ_self 0) ha rfl rfl
  | reconfigureEntered => exact ⟨Nat.lt_succ_self 9, ha, rfl, rfl⟩
  | reconfigureRefused => exact ⟨rfl, rfl⟩
  | rateSwapped => exact ⟨Nat.lt_succ_self 8, ha, rfl, rfl⟩
  | swapRejected => exact ⟨(by decide : 2 < 9), Nat.zero_le _, rfl, rfl⟩
  | rateRestored => exact nearer_finish (by decide : 2 ≤ 2) rfl rfl
  | lossReported => exact ⟨Nat.lt_succ_self 4, ha, rfl, rfl⟩
  | finished => exact ⟨rfl, rfl⟩
  | released => exact ⟨rfl, rfl⟩
  | noPort => trivial

/-! ## The end -/

/-- An invocation that moves undisturbed, with the answers left that it can take, ends. -/
theorem drive_ends (n : Nat) (op : Instr) : ∀ (pos : Pos) (s : State), (s.park op pos).Inv → s.channelBusy = false →
    s.monitor = none → pos.answersLeft ≤ s.answers.length → pos.segmentsLeft ≤ n →
    ∃ t, drive n op (.go pos s) = .next t ∧ t.pool = s.pool ∧ t.monitor = none := by
  induction n with
  | zero => exact fun pos s _ _ _ _ hn => absurd pos.segmentsLeft_pos (by omega)
  | succ n ih =>
    intro pos s hinv hfree hm ha hn
    have hnearer := (advance_takes pos s).nearer hfree hm ha
    have hkept := advance_keeps_inv hinv
    have hfault := advance_not_fault hinv.standing_park
    rw [drive_succ]
    cases hseg : advance pos s with
    | go pos' t =>
      rw [hseg] at hnearer hkept
      obtain ⟨hlt, ha', hpool, hm'⟩ := hnearer
      obtain ⟨u, hu, hpool', hmu⟩ :=
        ih pos' t hkept ((channelBusy_congr hpool).trans hfree) (hm'.trans hm) ha' (by omega)
      exact ⟨u, hu, hpool'.trans hpool, hmu⟩
    | ret r t =>
      rw [hseg] at hnearer
      obtain ⟨hpool, hm'⟩ := hnearer
      exact ⟨_, drive_ret _ _ _ _, hpool, hm'.trans hm⟩
    | blocked pos' t => exact (hseg ▸ hnearer).elim
    | fault f => exact absurd hseg (hfault f)

/-- The first segment neither waits nor takes an answer, and leaves the other invocations and the handler. -/
def Seg.Sets (s : State) : Seg → Prop
  | .go _ t => t.answers = s.answers ∧ t.pool = s.pool ∧ t.monitor = s.monitor
  | .ret _ t => t.pool = s.pool ∧ t.monitor = s.monitor
  | .blocked _ _ => False
  | .fault _ => True

theorem Begins.sets {s : State} {i : Instr} {seg : Seg} (hb : Begins s i seg) : seg.Sets s := by
  cases hb with
  | noPort => trivial
  | _ => simp [Seg.Sets]

theorem Begins.ends {s : State} {i : Instr} {seg : Seg} (hb : Begins s i seg) (hsur : Surroundings i s)
    (hfault : ∀ f, seg ≠ .fault f) (hfree : s.channelBusy = false) (hm : s.monitor = none)
    (ha : 6 ≤ s.answers.length) : ∃ t, drive 64 i seg = .next t ∧ t.pool = s.pool ∧ t.monitor = none := by
  have hsets := hb.sets
  have hkept := hb.keeps_inv hsur
  cases seg with
  | go pos t =>
    obtain ⟨hanswers, hpool, hmt⟩ := hsets
    obtain ⟨u, hu, hpool', hmu⟩ := drive_ends 64 i pos t hkept ((channelBusy_congr hpool).trans hfree)
      (hmt.trans hm) (pos.answersLeft_le.trans (hanswers ▸ ha)) pos.segmentsLeft_le
    exact ⟨u, hu, hpool'.trans hpool, hmu⟩
  | ret r t => exact ⟨_, drive_ret _ _ _ _, hsets.1, hsets.2.trans hm⟩
  | blocked pos t => exact hsets.elim
  | fault f => exact absurd rfl (hfault f)

/-- Settles O58: by the number of segments left; a notification's handler ends with its re-arm. -/
theorem everyInvocationEnds : Obligations.EveryInvocationEnds := by
  intro i s hinv ⟨hslices, hfree, hopen⟩ hm hduty ha
  cases hn : isNotification i with
  | true =>
    cases i with
    | notify d =>
      obtain ⟨-, heq⟩ | ⟨p, -, hp, harm, -⟩ := exec_notify_cases d s
      · exact ⟨s, heq, rfl, hm⟩
      · refine ⟨_, exec_notify_undisturbed d hslices hm hp harm, ?_, State.rearm_monitor _ _⟩
        obtain ⟨q, gs, n, es, -, -, -, -, heq, -⟩ := rearm_frame (s := s.notified p.consumed d) rfl
        rw [heq]
        rfl
    | _ => cases hn
  | false =>
    obtain heq | ⟨hnot, -⟩ | ⟨seg, hlegal, -, heq, hb⟩ := exec_cases hn s
    · exact ⟨_, heq, rfl, hm⟩
    · exact absurd hduty (by simp [hnot])
    · rw [takeSlice_nil hslices] at hb
      rw [heq, slice_nil hslices]
      exact hb.ends (hinv.surroundings_start hn hduty) (hb.not_fault hinv hlegal) hfree hm ha

end Sys2Proof.Machine
end

section
/-!
CLAIM, RECONFIGURE and its two pseudo-operations, and RELEASE (45_orchestrator.md sections 2, 4 and 6).
-/

namespace Sys2Proof.Machine

/-! ## CLAIM -/

/-- Settles O39. -/
theorem resetValues : Obligations.ResetValues := by
  refine ⟨rfl, ⟨_, rfl, rfl, rfl, rfl, rfl, rfl, rfl, rfl, rfl⟩, rfl, rfl, rfl, fun s t r h => ?_⟩
  have ht := advance_takes .releaseWait s
  rw [h] at ht
  cases ht with
  | released => exact ⟨rfl, rfl⟩

/-- Settles O40. -/
theorem claimCompletes : Obligations.ClaimCompletes := by
  refine fun s => ⟨fun hphase hpool => ?_, fun hphase => ?_⟩
  · rw [exec_claim, invoke_admitted (by rw [hphase]; rfl) (dutyKept_noLifecycle rfl hpool), drive_ret]
    rfl
  · exact exec_of_illegal (by simpa [legal] using hphase)

/-! ## RECONFIGURE -/

/-- RECONFIGURE and its two pseudo-operations, called with the rate and the byte that they come to. -/
def IsReconfigure (op : Instr) (p : Port) (b : U32) (f : Byte) : Prop :=
  op = .reconfigure b f ∨ (op = .setBaudRate b ∧ f = p.ls.frameFormat) ∨ (op = .setFrameFormat f ∧ b = p.ls.baudRate)

/-- The state after RECONFIGURE's first block (R206). -/
def State.swapped (s : State) (p : Port) (b : U32) : State :=
  { s with phase := .reconfiguring, port := some (p.setBaud b) }

theorem advance_swapBaud {s : State} {p : Port} (hp : s.port = some p) (b : U32) (f : Byte) :
    advance (.swapBaud b f) (s.setPhase .reconfiguring) =
      lineStart (.reconfigure p.ls.baudRate f) b f (s.swapped p b) := by
  rw [advance, withPort_some (s := s.setPhase .reconfiguring) hp]
  rfl

theorem reconfigureEntry_active {s : State} (h : s.phase = .active) (b : U32) (f : Byte) :
    reconfigureEntry b f s = .go (.swapBaud b (enabledFormat s.cfg f)) (s.setPhase .reconfiguring) :=
  if_pos h

/-- All three come, undisturbed, to PROGRAM_LINE with the rate swapped; one segment later where the other half of the
pair is read first. -/
theorem exec_reconfigure_undisturbed {op : Instr} {b : U32} {f : Byte} {s : State} {p : Port} (hs : s.Undisturbed)
    (hphase : s.phase = .active) (hpool : ∀ t ∈ s.pool, isLifecycle t.op = false) (hp : s.port = some p)
    (hop : IsReconfigure op p b f) : ∃ n, exec op s = drive (n + 62) op
      (lineStart (.reconfigure p.ls.baudRate (enabledFormat s.cfg f)) b (enabledFormat s.cfg f) (s.swapped p b)) := by
  have hlegal {op : Instr} (h : legal op .active = true) : legal op s.phase = true := hphase ▸ h
  have hread (b : U32) (f : Byte) : advance (.reconfigure b f) s = reconfigureEntry b f s := rfl
  obtain ⟨hslices, -, -⟩ := hs
  rcases hop with rfl | ⟨rfl, rfl⟩ | ⟨rfl, rfl⟩
  · refine ⟨1, ?_⟩
    rw [exec_reconfigure, invoke_run (hlegal rfl) (dutyKept_noLifecycle rfl hpool) hslices,
      reconfigureEntry_active hphase, drive_succ, advance_swapBaud hp]
  · refine ⟨0, ?_⟩
    rw [exec_setBaudRate, invoke_run (hlegal rfl) (dutyKept_noLifecycle rfl hpool) hslices, withPort_some hp,
      drive_succ, hread, reconfigureEntry_active hphase, drive_succ, advance_swapBaud hp]
  · refine ⟨0, ?_⟩
    rw [exec_setFrameFormat, invoke_run (hlegal rfl) (dutyKept_noLifecycle rfl hpool) hslices, withPort_some hp,
      drive_succ, hread, reconfigureEntry_active hphase, drive_succ, advance_swapBaud hp]

/-- What a failed RECONFIGURE leaves: the old rate is stored again, the phase is `Active`. -/
theorem drive_restoreBaud {s : State} {p : Port} (hp : s.port = some p) (old : U32) (e : ErrorKind) (n : Nat)
    (op : Instr) : drive (n + 1) op (restoreBaud old e s) =
      .next (((s.setPort (p.setBaud old)).setPhase .active).respond (some op) (.err e)) := by
  rw [restoreBaud, withPort_some hp, drive_succ, advance, drive_ret]

/-- Both writes of RECONFIGURE have succeeded. -/
theorem drive_lineDone_reconfigure {s : State} {p : Port} (hp : s.port = some p) (old : U32) (f : Byte) (n : Nat)
    (op : Instr) : drive (n + 1) op (lineDone (.reconfigure old f) s) =
      .next (((s.setPort (p.setFormat f)).setPhase .active).respond (some op) (.ok .unit)) := by
  rw [lineDone, withPort_some hp, drive_succ, advance, drive_ret]

theorem lineStart_ok {b : U32} {plan : BaudPlan} {payload : U16} (h : synthesizeRate b = .ok (plan, payload))
    (k : LineCaller) (f : Byte) (s : State) :
    lineStart k b f s = .go (.send (baudFrame payload) (.firstWrite f k)) s := by
  simp [lineStart, h]

theorem baudFrame_eq (payload : U16) : baudFrame payload = ⟨.toDevice, 0x9A, payload, 0x1312, 0⟩ := rfl

theorem formatFrame_eq (f : Byte) : formatFrame f = ⟨.toDevice, 0x9A, f.zeroExtend 16, 0x2518, 0⟩ := rfl

/-- Settles O44: the two transfers, and the block that stores the byte. -/
theorem reconfigureCompletes : Obligations.ReconfigureCompletes := by
  intro op b f s p plan payload x y rest hs hphase hpool hp hop hrate ha f'
  obtain ⟨n, hexec⟩ := exec_reconfigure_undisturbed hs hphase hpool hp hop
  rw [hexec, lineStart_ok hrate]
  refine (drive_transfer (n + 59) _ _ _ (s.swapped p b) _ _ hs.2.1 ha).trans ?_
  rw [outcome_toDevice rfl]
  refine (drive_transfer (n + 56) _ _ _ ((s.swapped p b).transferred _ (.ok y :: rest)) _ _ hs.2.1 rfl).trans ?_
  rw [outcome_toDevice rfl]
  refine (drive_lineDone_reconfigure (p := p.setBaud b)
    (s := ((s.swapped p b).transferred (baudFrame payload) (.ok y :: rest)).transferred (formatFrame f') rest)
    rfl p.ls.baudRate f' (n + 55) op).trans ?_
  simp [State.respond, State.emit, State.transferred, State.swapped, State.setPort, State.setPhase, ← hphase,
    baudFrame_eq, formatFrame_eq]
  rfl

/-- Settles O45: each of the three failures restores the rate. -/
theorem reconfigureRollsBack : Obligations.ReconfigureRollsBack := by
  intro op b f s p rest hs hphase hpool hp hop f'
  obtain ⟨n, hexec⟩ := exec_reconfigure_undisturbed hs hphase hpool hp hop
  have hrestored (t : State) (e : ErrorKind) (m : Nat) (ht : t.port = some (p.setBaud b)) :
      drive (m + 1) op (restoreBaud p.ls.baudRate e t) =
        .next (((t.setPort p).setPhase .active).respond (some op) (.err e)) :=
    drive_restoreBaud ht p.ls.baudRate e m op
  refine ⟨fun e he => ?_, fun plan payload hrate => ⟨fun ha => ?_, fun x ha => ?_⟩⟩
  · have hstart : lineStart (.reconfigure p.ls.baudRate (enabledFormat s.cfg f)) b (enabledFormat s.cfg f)
        (s.swapped p b) = .go (.rollback p.ls.baudRate e) (s.swapped p b) := by
      simp [lineStart, he]
    rw [hexec, hstart, drive_succ, advance, hrestored _ _ _ rfl]
    simp [State.respond, State.emit, State.swapped, State.setPort, State.setPhase, ← hphase, ← hp]
  · rw [hexec, lineStart_ok hrate]
    refine (drive_transfer (n + 59) _ _ _ (s.swapped p b) _ _ hs.2.1 ha).trans ?_
    refine (hrestored ((s.swapped p b).transferred (baudFrame payload) rest) _ (n + 58) rfl).trans ?_
    simp [State.respond, State.emit, State.transferred, State.swapped, State.setPort, State.setPhase, ← hphase,
      ← hp, baudFrame_eq]
  · rw [hexec, lineStart_ok hrate]
    refine (drive_transfer (n + 59) _ _ _ (s.swapped p b) _ _ hs.2.1 ha).trans ?_
    rw [outcome_toDevice rfl]
    refine (drive_transfer (n + 56) _ _ _ ((s.swapped p b).transferred _ (.fail :: rest)) _ _ hs.2.1 rfl).trans ?_
    refine (hrestored
      (((s.swapped p b).transferred (baudFrame payload) (.fail :: rest)).transferred (formatFrame f') rest) _
      (n + 55) rfl).trans ?_
    simp [State.respond, State.emit, State.transferred, State.swapped, State.setPort, State.setPhase, ← hphase,
      ← hp, baudFrame_eq, formatFrame_eq]

/-! ## RELEASE -/

/-- RELEASE, run undisturbed, comes to where it waits for the handler. -/
theorem exec_release_undisturbed {s : State} {p : Port} (hs : s.slices = []) (hp : s.port = some p)
    (hphase : s.phase = .unconfigured ∨ s.phase = .active) (hpool : s.pool = []) :
    exec .release s = drive 63 .release (advance .releaseWait (s.unsubscribe p)) := by
  have hlegal : legal .release s.phase = true := by simpa [legal] using hphase
  rw [exec_release, invoke_run hlegal (dutyKept_quiet _ hpool) hs, withPort_some hp, drive_succ]

theorem advance_releaseWait_none {s : State} (h : s.monitor = none) :
    advance .releaseWait s = .ret (.ok .unit) { s with phase := .released, port := none } := by
  simp [advance, h]

theorem advance_releaseWait_some {s : State} (h : s.monitor ≠ none) :
    advance .releaseWait s = .blocked .releaseWait s := by
  simp [advance, h]

/-- Settles O49. -/
theorem releaseCompletes : Obligations.ReleaseCompletes := by
  refine fun s p hs hp => ⟨fun hphase hpool hm => ?_, fun hphase hpool hm => ?_, fun hpool hm hin => ?_⟩
  · rw [exec_release_undisturbed hs hp hphase hpool, advance_releaseWait_none (s := s.unsubscribe p) hm, drive_ret]
    rfl
  · rw [exec_release_undisturbed hs hp hphase hpool, advance_releaseWait_some (s := s.unsubscribe p) hm,
      drive_blocked]
    simp [State.park, State.unsubscribe, State.emit, State.setPort, hpool, Port.disarmed, Port.cancelEvents]
  · have hstep : step s = proceedTask 0 s := by simp only [step, State.fetch, hin, goOn, hm, hpool]
    have htask : proceedTask 0 s = drive s.slice .release (advance .releaseWait { s.takeSlice with pool := [] }) := by
      simp [proceedTask, hpool]
    rw [hstep, htask, advance_releaseWait_none (s := { s.takeSlice with pool := [] }) hm, drive_ret, takeSlice_nil hs]
    rfl

end Sys2Proof.Machine
end

section
/-!
The bring-up of OPEN and of RESUME (45_orchestrator.md sections 3 and 5): the five transfers of CONFIGURE as one list,
run up to any of them by one induction; then the subscription and the seed.
-/

namespace Sys2Proof.Machine

/-! ## CONFIGURE as a list of transfers -/

/-- A transfer, with where its operation goes on afterwards. -/
abbrev Leg := Frame × After

/-- The five transfers of CONFIGURE (R204). -/
def bringUpLegs (b : BringUp) (payload : U16) (format control : Byte) : List Leg :=
  [(readVersionFrame, .version b), (serialInitFrame, .serialInit b),
   (baudFrame payload, .firstWrite format (.configure b)), (formatFrame format, .secondWrite (.configure b)),
   (modemCtrlFrame control, .push b)]

theorem bringUpLegs_frames (b : BringUp) (payload : U16) (format control : Byte) :
    (bringUpLegs b payload format control).map Prod.fst = bringUpFrames payload format control := rfl

/-- For this port, once the first transfer has succeeded the second is the next to be started. -/
def Leg.Before (p : Port) (x y : Leg) : Prop :=
  ∀ bytes s, s.port = some p → ∃ q, afterSuccess x.2 bytes s = .go (.send y.1 y.2) (s.setPhase q)

theorem version_before (p : Port) (b : BringUp) :
    Leg.Before p (readVersionFrame, .version b) (serialInitFrame, .serialInit b) :=
  fun _ _ _ => ⟨.initialized, rfl⟩

theorem bringUpLegs_isChain {p : Port} {plan : BaudPlan} {payload : U16}
    (h : synthesizeRate p.ls.baudRate = .ok (plan, payload)) (b : BringUp) :
    (bringUpLegs b payload p.ls.frameFormat p.ls.modemControl).IsChain (Leg.Before p) := by
  refine .cons_cons (version_before p b) (.cons_cons ?_ (.cons_cons ?_ (.cons_cons ?_ (.singleton _))))
  · exact fun _ s hp => ⟨s.phase, by simp only [afterSuccess, withPort_some hp, lineStart_ok h]; rfl⟩
  · exact fun _ s _ => ⟨s.phase, rfl⟩
  · exact fun _ s hp => ⟨s.phase, by simp only [afterSuccess, lineDone, withPort_some hp]; rfl⟩

/-- The state after these transfers, the phase apart. -/
def State.after (s : State) (sent : List Frame) (rest : List Answer) (q : Phase) : State :=
  { s with phase := q, answers := rest, out := s.out ++ sent.map .sent }

/-- The invocation, undisturbed, comes to any transfer of such a list, if those before it succeed. -/
theorem drive_legs {p : Port} {op : Instr} {x : Leg} {rest : List Answer} (n : Nat) (pre : List Leg) :
    ∀ (h : Leg) (l : List Leg) (s : State) (as : List Answer), pre ++ [x] = h :: l →
      (pre ++ [x]).IsChain (Leg.Before p) → succeedAll (pre.map Prod.fst) as = true → s.port = some p →
      s.channelBusy = false → s.answers = as ++ rest →
      ∃ q, drive (n + 3 * pre.length) op (.go (.send h.1 h.2) s) =
        drive n op (.go (.send x.1 x.2) (s.after (pre.map Prod.fst) rest q)) := by
  induction pre with
  | nil =>
    intro h l s as hhead _ has _ _ ha
    obtain ⟨rfl, -⟩ := List.cons.inj hhead
    obtain rfl := (succeedAll_nil as).1 has
    exact ⟨s.phase, by simp only [List.nil_append] at ha; simp [State.after, ← ha]⟩
  | cons y pre ih =>
    intro h l s as hhead hchain has hp hc ha
    obtain ⟨rfl, -⟩ := List.cons.inj hhead
    obtain ⟨a, as', bytes, rfl, hok, has'⟩ := (succeedAll_cons _ _ _).1 has
    obtain ⟨z, l', hz⟩ := List.exists_cons_of_ne_nil (List.append_ne_nil_of_right_ne_nil pre (List.cons_ne_nil x []))
    rw [List.cons_append, hz, List.isChain_cons_cons, ← hz] at hchain
    obtain ⟨hbefore, hchain'⟩ := hchain
    obtain ⟨q, hq⟩ := hbefore bytes (s.transferred y.1 (as' ++ rest)) hp
    obtain ⟨q', hq'⟩ := ih z l' ((s.transferred y.1 (as' ++ rest)).setPhase q) as' hz hchain' has' hp hc rfl
    refine ⟨q', (drive_transfer (n + 3 * pre.length) op y.1 y.2 s a (as' ++ rest) hc ha).trans ?_⟩
    rw [hok, afterTransfer]
    refine (congrArg (drive (n + 3 * pre.length) op) hq).trans (hq'.trans ?_)
    simp [State.after, State.transferred, State.setPhase]

theorem succeedAll_concat {f : Frame} (fs : List Frame) : ∀ {as : List Answer}, succeedAll (fs ++ [f]) as = true →
    ∃ as' a bytes, as = as' ++ [a] ∧ succeedAll fs as' = true ∧ f.outcome a = .ok bytes := by
  induction fs with
  | nil =>
    intro as h
    obtain ⟨a, as', bytes, rfl, hok, hnil⟩ := (succeedAll_cons _ _ _).1 h
    obtain rfl := (succeedAll_nil as').1 hnil
    exact ⟨[], a, bytes, rfl, rfl, hok⟩
  | cons g fs ih =>
    intro as h
    obtain ⟨a, as', bytes, rfl, hok, h'⟩ := (succeedAll_cons _ _ _).1 h
    obtain ⟨as'', a', bytes', rfl, has, hok'⟩ := ih h'
    exact ⟨a :: as'', a', bytes', rfl, (succeedAll_cons _ _ _).2 ⟨a, as'', bytes, rfl, hok, has⟩, hok'⟩

/-- All transfers of such a list succeed: the invocation goes on after the last one. -/
theorem drive_legs_succeed {p : Port} {op : Instr} {x h : Leg} {l pre : List Leg} {s : State}
    {as rest : List Answer} (n : Nat) (hhead : pre ++ [x] = h :: l) (hchain : (pre ++ [x]).IsChain (Leg.Before p))
    (has : succeedAll ((pre ++ [x]).map Prod.fst) as = true) (hp : s.port = some p) (hc : s.channelBusy = false)
    (ha : s.answers = as ++ rest) : ∃ q bytes, drive (n + 3 + 3 * pre.length) op (.go (.send h.1 h.2) s) =
      drive n op (afterSuccess x.2 bytes (s.after ((pre ++ [x]).map Prod.fst) rest q)) := by
  rw [List.map_append] at has
  obtain ⟨as', a, bytes, rfl, has', hok⟩ := succeedAll_concat _ has
  rw [List.append_assoc] at ha
  obtain ⟨q, hq⟩ := drive_legs (op := op) (n + 3) pre h l s as' hhead hchain has' hp hc ha
  refine ⟨q, bytes, hq.trans ?_⟩
  refine (drive_transfer n op x.1 x.2 (s.after (pre.map Prod.fst) ([a] ++ rest) q) a rest hc rfl).trans ?_
  rw [hok]
  simp [State.after, afterTransfer]

/-- One transfer of such a list fails after those before it have succeeded. -/
theorem drive_legs_fail {p : Port} {op : Instr} {x h : Leg} {l pre : List Leg} {s : State} {as rest : List Answer}
    {a : Answer} {e : ErrorKind} (n : Nat) (hhead : pre ++ [x] = h :: l)
    (hchain : (pre ++ [x]).IsChain (Leg.Before p)) (has : succeedAll (pre.map Prod.fst) as = true)
    (hfail : x.1.outcome a = .error e) (hp : s.port = some p) (hc : s.channelBusy = false)
    (ha : s.answers = as ++ a :: rest) : ∃ q, drive (n + 3 + 3 * pre.length) op (.go (.send h.1 h.2) s) =
      drive n op (afterFailure x.2 e (s.after ((pre ++ [x]).map Prod.fst) rest q)) := by
  obtain ⟨q, hq⟩ := drive_legs (op := op) (n + 3) pre h l s as hhead hchain has hp hc ha
  refine ⟨q, hq.trans ?_⟩
  refine (drive_transfer n op x.1 x.2 (s.after (pre.map Prod.fst) (a :: rest) q) a rest hc rfl).trans ?_
  rw [hfail]
  simp [State.after, afterTransfer]

/-! ## CONFIGURE -/

/-- A failed step of CONFIGURE ends the operation. -/
theorem bringUpLegs_afterFailure {b : BringUp} {payload : U16} {format control : Byte} {x : Leg}
    (hx : x ∈ bringUpLegs b payload format control) (e : ErrorKind) (s : State) :
    afterFailure x.2 e s = .ret (.err e) (s.setPhase .unconfigured) := by
  simp only [bringUpLegs, List.mem_cons, List.not_mem_nil, or_false] at hx
  rcases hx with rfl | rfl | rfl | rfl | rfl <;> rfl

section
variable {s : State} {p : Port} {op : Instr} {b : BringUp} {as rest : List Answer}

/-- CONFIGURE fails at a transfer (R204). -/
theorem bringUp_fails {plan : BaudPlan} {payload : U16} {pre post : List Frame} {f : Frame} {a : Answer}
    {e : ErrorKind} (hrate : synthesizeRate p.ls.baudRate = .ok (plan, payload)) (hp : s.port = some p)
    (hc : s.channelBusy = false)
    (hframes : bringUpFrames payload p.ls.frameFormat p.ls.modemControl = pre ++ f :: post)
    (has : succeedAll pre as = true) (hfail : f.outcome a = .error e) (ha : s.answers = as ++ a :: rest) :
    drive 64 op (.go (.send readVersionFrame (.version b)) s) =
      .next ((s.after (pre ++ [f]) rest .unconfigured).respond (some op) (.err e)) := by
  rw [← bringUpLegs_frames b] at hframes
  obtain ⟨before, others, hlegs, rfl, hothers⟩ := List.map_eq_append_iff.1 hframes
  obtain ⟨x, behind, rfl, rfl, rfl⟩ := List.map_eq_cons_iff.1 hothers
  have hsplit : bringUpLegs b payload p.ls.frameFormat p.ls.modemControl = (before ++ [x]) ++ behind := by
    rw [hlegs, List.append_assoc, List.singleton_append]
  have hlength : 5 = before.length + 1 + behind.length :=
    (congrArg List.length hsplit).trans (by rw [List.length_append, List.length_append, List.length_singleton])
  obtain ⟨h, l, hhead⟩ := List.exists_cons_of_ne_nil (List.append_ne_nil_of_right_ne_nil before (List.cons_ne_nil x []))
  have hchain : (before ++ [x]).IsChain (Leg.Before p) := (hsplit ▸ bringUpLegs_isChain hrate b).left_of_append
  have hx : x ∈ bringUpLegs b payload p.ls.frameFormat p.ls.modemControl := by simp [hsplit]
  obtain ⟨rfl, -⟩ : (readVersionFrame, .version b) = h ∧ _ = l ++ behind :=
    List.cons.inj (hsplit.trans (congrArg (· ++ behind) hhead))
  obtain ⟨q, hq⟩ := drive_legs_fail (op := op) (61 - 3 * before.length) hhead hchain has hfail hp hc ha
  rw [show 61 - 3 * before.length + 3 + 3 * before.length = 64 by omega, bringUpLegs_afterFailure hx, drive_ret] at hq
  rw [hq]
  simp [State.after, State.setPhase]

/-- CONFIGURE stops at the stored rate, which SYNTHESIZE rejects (R204; D36). -/
theorem bringUp_rejected {e : ErrorKind} (hrate : synthesizeRate p.ls.baudRate = .error e) (hp : s.port = some p)
    (hc : s.channelBusy = false) (has : succeedAll [readVersionFrame, serialInitFrame] as = true)
    (ha : s.answers = as ++ rest) : drive 64 op (.go (.send readVersionFrame (.version b)) s) =
      .next ((s.after [readVersionFrame, serialInitFrame] rest .unconfigured).respond (some op) (.err e)) := by
  obtain ⟨q, bytes, hq⟩ := drive_legs_succeed (op := op) (pre := [(readVersionFrame, .version b)])
    (x := (serialInitFrame, .serialInit b)) 58 rfl (.cons_cons (version_before p b) (.singleton _)) has hp hc ha
  have hstop (t : State) (ht : t.port = some p) :
      afterSuccess (.serialInit b) bytes t = .go (.finish .unconfigured (.err e)) t := by
    simp [afterSuccess, withPort_some ht, lineStart, hrate]
  refine hq.trans ((congrArg (drive 58 op) (hstop (s.after _ rest q) hp)).trans ?_)
  rw [drive_succ, advance, drive_ret]
  rfl

/-- CONFIGURE succeeds (R204). -/
theorem bringUp_succeeds {plan : BaudPlan} {payload : U16}
    (hrate : synthesizeRate p.ls.baudRate = .ok (plan, payload)) (hp : s.port = some p)
    (hc : s.channelBusy = false)
    (has : succeedAll (bringUpFrames payload p.ls.frameFormat p.ls.modemControl) as = true)
    (ha : s.answers = as ++ rest) : ∃ q, drive 64 op (.go (.send readVersionFrame (.version b)) s) =
      drive 49 op
        (configured b (s.after (bringUpFrames payload p.ls.frameFormat p.ls.modemControl) rest q)) := by
  obtain ⟨q, bytes, hq⟩ := drive_legs_succeed (op := op)
    (pre := (bringUpLegs b payload p.ls.frameFormat p.ls.modemControl).dropLast)
    (x := (modemCtrlFrame p.ls.modemControl, .push b)) 49 rfl (bringUpLegs_isChain hrate b) has hp hc ha
  exact ⟨q, hq⟩

end

/-! ## The seed (R205, R209) -/

/-- The seed of OPEN or of RESUME succeeds: the status is stored, the port is `Active`. -/
theorem drive_seed_succeeds {k : QueryCaller} (hk : k.isLife = true) {s : State} {p : Port} {bytes : List Byte}
    {b : Byte} {rest : List Answer} (hcfg : s.cfg.Ok) (hp : s.port = some p) (hc : s.channelBusy = false)
    (ha : s.answers = .ok bytes :: rest) (hlen : bytes.length = s.cfg.statusQueryLen)
    (hb : bytes[s.cfg.statusQueryByte]? = some b) (n : Nat) (op : Instr) :
    drive (n + 4) op (.go (.send (statusFrame s.cfg) (.query k)) s) = .next { s with
      phase := .active, port := some (p.setStatus (decodeStatus b)), answers := rest
      out := s.out ++ [.sent (statusFrame s.cfg), .result (some op) (.ok .unit)] } := by
  refine (drive_transfer (n + 1) op (statusFrame s.cfg) (.query k) s _ rest hc ha).trans ?_
  rw [statusFrame_outcome_full hcfg hlen, afterTransfer, afterSuccess]
  refine (drive_queryDone (s := s.transferred _ rest) hp hb n op).trans ?_
  have hne : k ≠ .direct := by
    rintro rfl
    cases hk
  simp [State.respond, State.emit, State.transferred, hne]

/-- The two ways the seed fails (R205): the transfer, or a short reply. -/
def SeedFails (c : Config.Params) (a : Answer) (e : ErrorKind) : Prop :=
  a = .fail ∧ e = .transferFailure ∨
    ∃ bytes, a = .ok bytes ∧ bytes.length < c.statusQueryLen ∧ e = .deviceProtocolError

theorem SeedFails.outcome {c : Config.Params} (hc : c.Ok) {a : Answer} {e : ErrorKind} (h : SeedFails c a e) :
    (statusFrame c).outcome a = .error e := by
  obtain ⟨rfl, rfl⟩ | ⟨bytes, rfl, hlen, rfl⟩ := h
  · exact outcome_fail _
  · exact statusFrame_outcome_short hc hlen

theorem statusFrame_eq (c : Config.Params) :
    statusFrame c = ⟨.toHost, 0x95, c.statusSelector, 0, BitVec.ofNat 16 c.statusQueryLen⟩ := rfl

theorem unsubscribe_eq (s : State) (p : Port) :
    s.unsubscribe p = { s with port := some p.disarmed, out := s.out ++ p.cancelEvents } := rfl

/-- The seed of OPEN or of RESUME fails: the subscription is withdrawn, the port is `Unconfigured`. -/
theorem drive_seed_fails {k : QueryCaller} (hk : k.isLife = true) {s : State} {p : Port} {a : Answer}
    {rest : List Answer} {e : ErrorKind} (hcfg : s.cfg.Ok) (hp : s.port = some p) (hc : s.channelBusy = false)
    (ha : s.answers = a :: rest) (hfails : SeedFails s.cfg a e) (n : Nat) (op : Instr) :
    drive (n + 4) op (.go (.send (statusFrame s.cfg) (.query k)) s) = .next { s with
      phase := .unconfigured, port := some p.disarmed, answers := rest
      out := s.out ++ [.sent (statusFrame s.cfg)] ++ p.cancelEvents ++ [.result (some op) (.err e)] } := by
  have hwithdrawn (t : State) (ht : t.port = some p) :
      queryFailed k e t = .go (.finish .unconfigured (.err e)) (t.unsubscribe p) := by
    cases k with
    | direct => cases hk
    | openPort => rw [queryFailed, withPort_some ht]
    | resume => rw [queryFailed, withPort_some ht]
  refine (drive_transfer (n + 1) op (statusFrame s.cfg) (.query k) s a rest hc ha).trans ?_
  rw [hfails.outcome hcfg, afterTransfer, afterFailure]
  refine (congrArg (drive (n + 1) op) (hwithdrawn (s.transferred (statusFrame s.cfg) rest) hp)).trans ?_
  rw [drive_succ, advance, drive_ret]
  rfl

theorem decodeStatus_eq (b : Byte) : decodeStatus b = ~~~b &&& 0x0F := rfl

/-! ## After CONFIGURE -/

/-- The state after a `Submit` that has been granted (R178). -/
def State.subscribed (s : State) (p : Port) : State :=
  { s.afterSubmit with port := some p.armed, out := s.out ++ [.submit] }

theorem configured_openPort_armed {s : State} {p : Port} (hp : s.port = some p) (h : p.subArmed = true) :
    configured .openPort s = .go (.send (statusFrame s.cfg) (.query .openPort)) s := by
  simp only [configured, withPort_some hp, subscribe_armed h]

theorem configured_openPort_granted {s : State} {p : Port} (hp : s.port = some p) (h : p.subArmed = false)
    (hg : s.grant = true) :
    configured .openPort s = .go (.send (statusFrame s.cfg) (.query .openPort)) (s.subscribed p) := by
  simp only [configured, withPort_some hp, subscribe_granted h hg]
  rfl

theorem configured_openPort_refused {s : State} {p : Port} (hp : s.port = some p) (h : p.subArmed = false)
    (hg : s.grant = false) : configured .openPort s =
      .go (.finish .unconfigured (.err .transferFailure)) { s.afterSubmit with out := s.out ++ [.submit] } := by
  simp only [configured, withPort_some hp, subscribe_refused h hg]

theorem configured_resume_granted {s : State} {p : Port} (hp : s.port = some p) (h : p.subArmed = false)
    (hg : s.grant = true) :
    configured (.resume true) s = .go (.send (statusFrame s.cfg) (.query .resume)) (s.subscribed p) := by
  simp only [configured, withPort_some hp, subscribe_granted h hg]
  rfl

theorem configured_resume_refused {s : State} {p : Port} (hp : s.port = some p) (h : p.subArmed = false)
    (hg : s.grant = false) : configured (.resume true) s =
      .go .reportLost { s.afterSubmit with out := s.out ++ [.submit] } := by
  simp only [configured, withPort_some hp, subscribe_refused h hg]

/-! ## OPEN -/

theorem exec_openPort_undisturbed {s : State} (hs : s.Undisturbed) (hphase : s.phase = .unconfigured)
    (hpool : ∀ t ∈ s.pool, isLifecycle t.op = false) :
    exec .openPort s = drive 64 .openPort (.go (.send readVersionFrame (.version .openPort)) (s.setPhase .probing)) := by
  rw [exec_openPort, invoke_run (by rw [hphase]; rfl) (dutyKept_noLifecycle rfl hpool) hs.1]

/-- Settles O42. -/
theorem openFailsInConfigure : Obligations.OpenFailsInConfigure := by
  intro s p as rest e hs hphase hpool hp done
  rw [exec_openPort_undisturbed hs hphase hpool]
  have hdone (sent : List Frame) :
      ((s.setPhase .probing).after sent rest .unconfigured).respond (some .openPort) (.err e) = done sent := by
    simp [done, State.after, State.respond, State.emit, State.setPhase, hphase]
  constructor
  · intro hrate probes has ha
    rw [bringUp_rejected (s := s.setPhase .probing) hrate hp hs.2.1 has ha, hdone]
    rfl
  · intro plan payload pre f post a hrate hframes has hfail ha
    rw [bringUp_fails (s := s.setPhase .probing) hrate hp hs.2.1 hframes has hfail ha, hdone]

/-- OPEN, run undisturbed, comes to ACTIVATE. -/
theorem exec_openPort_configured {s : State} {p : Port} {plan : BaudPlan} {payload : U16} {as rest : List Answer}
    (hs : s.Undisturbed) (hphase : s.phase = .unconfigured) (hpool : ∀ t ∈ s.pool, isLifecycle t.op = false)
    (hp : s.port = some p) (hrate : synthesizeRate p.ls.baudRate = .ok (plan, payload))
    (has : succeedAll (bringUpFrames payload p.ls.frameFormat p.ls.modemControl) as = true)
    (ha : s.answers = as ++ rest) : ∃ q, exec .openPort s = drive 49 .openPort (configured .openPort
      (s.after (bringUpFrames payload p.ls.frameFormat p.ls.modemControl) rest q)) := by
  rw [exec_openPort_undisturbed hs hphase hpool]
  exact bringUp_succeeds (s := s.setPhase .probing) hrate hp hs.2.1 has ha

/-- Settles O41: with a subscription outstanding the seed follows at once, else after the `Submit`. -/
theorem openCompletes : Obligations.OpenCompletes := by
  intro s p plan payload as rest bytes b hs hcfg hphase hpool hp hrate frames has ha hlen hb hgrant s' p'
  obtain ⟨q, hq⟩ := exec_openPort_configured hs hphase hpool hp hrate has ha
  rw [hq]
  cases harm : p.subArmed with
  | true =>
    rw [configured_openPort_armed (s := s.after _ _ q) hp harm]
    refine (drive_seed_succeeds (s := s.after _ _ q) rfl hcfg hp hs.2.1 rfl hlen hb 45 _).trans ?_
    simp [s', p', harm, State.after, frames, statusFrame_eq, Port.setStatus, decodeStatus_eq]
  | false =>
    have hg : s.grant = true := hgrant.resolve_left (by simp [harm])
    rw [configured_openPort_granted (s := s.after _ _ q) hp harm hg]
    refine (drive_seed_succeeds (s := (s.after _ _ q).subscribed p) rfl hcfg rfl hs.2.1 rfl hlen hb 45 _).trans ?_
    simp [s', p', harm, State.after, State.subscribed, State.afterSubmit, frames, statusFrame_eq, Port.setStatus,
      Port.armed, decodeStatus_eq]

/-- Settles O43. -/
theorem openFailsInActivate : Obligations.OpenFailsInActivate := by
  intro s p plan payload as rest hs hcfg hphase hpool hp hrate frames seed has
  refine ⟨fun harm hg ha => ?_, fun a e ha hfails => ⟨fun harm hg => ?_, fun harm => ?_⟩⟩
  · obtain ⟨q, hq⟩ := exec_openPort_configured hs hphase hpool hp hrate has ha
    rw [hq, configured_openPort_refused (s := s.after _ _ q) hp harm hg, drive_succ, advance, drive_ret]
    simp [State.respond, State.emit, State.setPhase, State.after, State.afterSubmit, frames, hphase]
  · obtain ⟨q, hq⟩ := exec_openPort_configured hs hphase hpool hp hrate has ha
    rw [hq, configured_openPort_granted (s := s.after _ _ q) hp harm hg]
    refine (drive_seed_fails (s := (s.after _ _ q).subscribed p) rfl hcfg rfl hs.2.1 rfl hfails 45 _).trans ?_
    simp [State.after, State.subscribed, State.afterSubmit, frames, seed, hphase, statusFrame_eq, Port.armed,
      Port.disarmed, Port.cancelEvents]
  · obtain ⟨q, hq⟩ := exec_openPort_configured hs hphase hpool hp hrate has ha
    rw [hq, configured_openPort_armed (s := s.after _ _ q) hp harm]
    refine (drive_seed_fails (s := s.after _ _ q) rfl hcfg hp hs.2.1 rfl hfails 45 _).trans ?_
    simp [State.after, frames, seed, hphase, statusFrame_eq, Port.disarmed, Port.cancelEvents, harm]

/-! ## RESUME -/

/-- The state after RESUME's first block (R209). -/
def State.resuming (s : State) (p : Port) : State := (s.unsubscribe p).setPhase .probing

section
variable {s : State} {p : Port} {as rest : List Answer} {plan : BaudPlan} {payload : U16}

theorem exec_resume_undisturbed (hs : s.Undisturbed) (hphase : s.phase = .active ∨ s.phase = .unconfigured)
    (hpool : s.pool = []) (hp : s.port = some p) : exec .resume s =
      drive 64 .resume (.go (.send readVersionFrame (.version (.resume (s.phase == .active)))) (s.resuming p)) := by
  have hlegal : legal .resume s.phase = true := by simpa [legal, or_comm] using hphase
  rw [exec_resume, invoke_run hlegal (dutyKept_quiet _ hpool) hs.1, withPort_some hp]
  rfl

/-- RESUME, run undisturbed, comes to what it does after CONFIGURE. -/
theorem exec_resume_configured (hs : s.Undisturbed) (hphase : s.phase = .active ∨ s.phase = .unconfigured)
    (hpool : s.pool = []) (hp : s.port = some p) (hrate : synthesizeRate p.ls.baudRate = .ok (plan, payload))
    (has : succeedAll (bringUpFrames payload p.ls.frameFormat p.ls.modemControl) as = true)
    (ha : s.answers = as ++ rest) :
    ∃ q, exec .resume s = drive 49 .resume (configured (.resume (s.phase == .active))
      ((s.resuming p).after (bringUpFrames payload p.ls.frameFormat p.ls.modemControl) rest q)) := by
  rw [exec_resume_undisturbed hs hphase hpool hp]
  exact bringUp_succeeds (s := s.resuming p) (p := p.disarmed) hrate rfl hs.2.1 has ha

/-- The state after RESUME's `Submit`, whose refusal is reported and ends nothing (R209). -/
def State.resubscribed (s : State) (p : Port) : State :=
  { s.afterSubmit with
    port := some { p with subArmed := s.grant, stopRearm := !s.grant, monitorLost := !s.grant }
    out := s.out ++ (if s.grant then [.submit] else [.submit, .monitorLost]) }

/-- RESUME of an `Active` port comes from CONFIGURE to the seed, with the subscription or without it. -/
theorem drive_configured_resume (hp : s.port = some p.disarmed) (n : Nat) (op : Instr) :
    ∃ m, drive (n + 5) op (configured (.resume true) s) =
      drive (m + 4) op (.go (.send (statusFrame s.cfg) (.query .resume)) (s.resubscribed p)) := by
  cases hg : s.grant with
  | true =>
    refine ⟨n + 1, ?_⟩
    rw [configured_resume_granted hp rfl hg]
    simp [State.resubscribed, State.subscribed, hg, Port.armed, Port.disarmed]
  | false =>
    refine ⟨n, ?_⟩
    rw [configured_resume_refused hp rfl hg, drive_succ, advance,
      withPort_some (s := { s.afterSubmit with out := s.out ++ [.submit] }) hp]
    simp [State.resubscribed, hg, State.setPort, State.emit, State.afterSubmit, Port.disarmed]

end

/-- Settles O46. -/
theorem resumeRestoresActive : Obligations.ResumeRestoresActive := by
  intro s p plan payload as rest bytes b hs hcfg hphase hpool hp hrate frames has ha hlen hb
  obtain ⟨q, hq⟩ := exec_resume_configured hs (.inl hphase) hpool hp hrate has ha
  obtain ⟨m, hm⟩ := drive_configured_resume (s := (s.resuming p).after frames (.ok bytes :: rest) q) (p := p) rfl 44
    .resume
  rw [hq, hphase]
  refine hm.trans ?_
  refine (drive_seed_succeeds (s := ((s.resuming p).after frames (.ok bytes :: rest) q).resubscribed p) rfl hcfg rfl
    hs.2.1 rfl hlen hb m _).trans ?_
  rw [← hphase]
  rfl

/-- Settles O47. -/
theorem resumeKeepsUnconfigured : Obligations.ResumeKeepsUnconfigured := by
  intro s p plan payload as rest hs hphase hpool hp hrate frames has ha
  obtain ⟨q, hq⟩ := exec_resume_configured hs (.inr hphase) hpool hp hrate has ha
  have hkept (t : State) : configured (.resume (s.phase == .active)) t = .ret (.ok .unit) (t.setPhase .unconfigured) := by
    rw [hphase]
    rfl
  rw [hq, hkept, drive_ret]
  simp [State.respond, State.emit, State.setPhase, State.after, State.resuming, unsubscribe_eq, frames, hphase]

/-- Settles O48: the port is disarmed in RESUME's first block, and again where the seed fails. -/
theorem resumeFails : Obligations.ResumeFails := by
  intro s p as rest e hs hcfg hphase hpool hp done
  have hdone (sent : List Frame) :
      ((s.resuming p).after sent rest .unconfigured).respond (some .resume) (.err e) = done sent := by
    simp [done, State.after, State.respond, State.emit, State.setPhase, State.resuming, unsubscribe_eq]
  constructor
  · intro hrate probes has ha
    rw [exec_resume_undisturbed hs hphase hpool hp,
      bringUp_rejected (s := s.resuming p) (p := p.disarmed) hrate rfl hs.2.1 has ha, hdone]
    rfl
  · intro plan payload a hrate ha frames
    refine ⟨fun pre f post hframes has hfail => ?_, fun hactive has hfails => ?_⟩
    · rw [exec_resume_undisturbed hs hphase hpool hp,
        bringUp_fails (s := s.resuming p) (p := p.disarmed) hrate rfl hs.2.1 hframes has hfail ha, hdone]
    · obtain ⟨q, hq⟩ := exec_resume_configured hs hphase hpool hp hrate has ha
      obtain ⟨m, hm⟩ := drive_configured_resume (s := (s.resuming p).after frames (a :: rest) q) (p := p) rfl 44 .resume
      rw [hq, hactive]
      refine hm.trans ?_
      refine (drive_seed_fails (s := ((s.resuming p).after frames (a :: rest) q).resubscribed p) rfl hcfg rfl
        hs.2.1 rfl hfails m _).trans ?_
      rfl

end Sys2Proof.Machine
end
